-- ==== Sys2Proof/Word.lean ====
section
/-! DEFINITION. The byte, the unit of every frame on the drive line (R180), and the frame as the sequence of its bytes. -/

namespace Sys2Proof

/-- One byte of a frame. -/
abbrev Byte := BitVec 8

/-- A whole frame, in order of transmission, from the kind byte to the last check byte (section 11.1). -/
abbrev Frame := List Byte

end Sys2Proof
end

