-- ==== Sys2Proof/Syntax.lean ====
section
/-! DEFINITION. The commands of the block: one constructor for each row of spec/opcode_table.json. -/

namespace Sys2Proof

/-- A command: one whole, indivisible step of the part (95_what_each_step_holds.md).
The two frame events carry the frame's bytes. An engine's event carries nothing: its place stands in the state.
The execution of a request carries nothing: its tag and arguments stand at the head of the Request Queue (R165). -/
inductive Instr where
  /-- Power-on or the reset input (R169). -/
  | powerOnReset
  /-- A whole frame taken at the U port (R158, R159). -/
  | uFrameReceived (frame : Frame)
  /-- A whole frame taken at the D port (R158, R160). -/
  | dFrameReceived (frame : Frame)
  /-- Expiry of the cadence timer (R16). -/
  | cadenceLoss
  /-- The local sync generator produces a sync (R16). -/
  | localSync
  /-- The Body Evaluator evaluates one body (R39). -/
  | bodyEvaluation
  /-- The Target Mapper maps one axis (R62). -/
  | targetMapping
  /-- The Motion Shaper shapes one live axis (R80). -/
  | axisShaping
  /-- The Drive Supervisor emits the SETPOINT frame (R122). -/
  | setpointEmission
  /-- The Cue Engine services one occurrence (R152). -/
  | occurrenceService
  /-- The D transmitter finishes a frame (R162). -/
  | dTransmitEnd
  /-- The U transmitter finishes a frame (R163). -/
  | uTransmitEnd
  /-- Execution of a request whose code names none (R166). -/
  | unknownRequest
  /-- Execution of a READ_STATUS (R178, R179). -/
  | readStatus
  /-- Execution of a SET_EPOCH (R8). -/
  | setEpoch
  /-- Execution of a SET_RATE (R9). -/
  | setRate
  /-- Execution of a SET_EPOCH_WATCH (R14). -/
  | setEpochWatch
  /-- Execution of a SET_CADENCE (R18). -/
  | setCadence
  /-- Execution of a SET_SITE (R58). -/
  | setSite
  /-- Execution of a READ_AXIS (R76, R98, R136). -/
  | readAxis
  /-- Execution of a WRITE_AXIS (R60, R100, R140). -/
  | writeAxis
  /-- Execution of an AXIS_COMMAND that names ENABLE (R105). -/
  | enable
  /-- Execution of an AXIS_COMMAND that names DISABLE (R106). -/
  | disable
  /-- Execution of an AXIS_COMMAND that names HOME (R107). -/
  | home
  /-- Execution of an AXIS_COMMAND that names TRACK (R108). -/
  | track
  /-- Execution of an AXIS_COMMAND that names STOP (R109). -/
  | stop
  /-- Execution of an AXIS_COMMAND that names CLEAR_FAULT (R110). -/
  | clearFault
  /-- Execution of a READ_BODY (R28). -/
  | readBody
  /-- Execution of a WRITE_BODY (R26). -/
  | writeBody
  /-- Execution of a LOAD_SEGMENTS (R25). -/
  | loadSegments
  /-- Execution of a READ_SEGMENTS (R27). -/
  | readSegments
  /-- Execution of a SWAP_BANKS (R30, R31). -/
  | swapBanks
  /-- Execution of a CANCEL_SWAP (R36). -/
  | cancelSwap
  /-- Execution of a WRITE_CUES (R149). -/
  | writeCues
  /-- Execution of a WRITE_CHANNEL (R146). -/
  | writeChannel
  /-- Execution of an ARM_CHANNEL (R147). -/
  | armChannel
  /-- Execution of a DISARM_CHANNEL (R148). -/
  | disarmChannel
  /-- Execution of an ENTER_SHOW (R167). -/
  | enterShow
  /-- Execution of an ENTER_SETUP (R167). -/
  | enterSetup
  /-- Execution of a SOFT_RESET (R170, R171). -/
  | softReset
  /-- Execution of an AXIS_COMMAND by the rule that tests its axis and its command code (R104). -/
  | axisCommand
  deriving DecidableEq, Repr

end Sys2Proof
end

