-- ==== Sys2Proof/Decode.lean ====
section
/-! DEFINITION. The command that a word spells by the bits of spec/opcode_table.json: no row of that table gives bits. -/

namespace Sys2Proof

/-- None of the 41 rows of the table gives its command any bits, so no word spells a command.
(What the drive line's frames spell is decoded in Machine/Bytes.lean and Machine/Operands.lean.) -/
def decodeTableWord (_nbits _w : Nat) : Option Instr := none

end Sys2Proof
end

