-- ==== Sys2Proof/Machine/Bytes.lean ====
section
/-! DEFINITION. The byte order of the drive line, the check of a frame, and the frame envelope (chapter 11, R180). -/

namespace Sys2Proof.Machine

/-- An unsigned field of bytes, most significant byte first (00_scope 1.5.7). -/
def beNat (bs : List Byte) : Nat := bs.foldl (fun n b => n * 256 + b.toNat) 0

/-- A signed field, two's complement. -/
def beInt (bs : List Byte) : Int :=
  if beNat bs < 256 ^ bs.length / 2 then (beNat bs : Int) else (beNat bs : Int) - ((256 ^ bs.length : Nat) : Int)

/-- The k bytes of an unsigned field. -/
def natBytes : Nat → Nat → List Byte
  | 0, _ => []
  | k + 1, n => natBytes k (n / 256) ++ [BitVec.ofNat 8 n]

/-- The k bytes of a signed field, two's complement. -/
def intBytes (k : Nat) (x : Int) : List Byte := natBytes k (x % ((256 ^ k : Nat) : Int)).toNat

/-- A flag or an enable as a byte: 0 or 1 (R182). -/
def flagByte (b : Bool) : Byte := if b then 1 else 0

/-- k bytes from offset i of a payload. -/
def slice (bs : List Byte) (i k : Nat) : List Byte := (bs.drop i).take k

/-- A list cut into n records of k bytes each. -/
def chunks (k : Nat) : Nat → List Byte → List (List Byte)
  | 0, _ => []
  | n + 1, bs => bs.take k :: chunks k n (bs.drop k)

/-- One incoming bit of the check: the register's top bit is compared with it, the register is shifted left, and combined
with 4,129 where the two differed (R180). -/
def checkBit (r : BitVec 16) (b : Bool) : BitVec 16 :=
  if r.getLsbD 15 != b then (r <<< 1) ^^^ 4129#16 else r <<< 1

/-- One incoming byte, its most significant bit first. -/
def checkByte (r : BitVec 16) (b : Byte) : BitVec 16 :=
  [7, 6, 5, 4, 3, 2, 1, 0].foldl (fun r i => checkBit r (b.getLsbD i)) r

/-- The check of a sequence of bytes: a register of 16 ones, every byte taken in turn, not inverted (R158, R180). -/
def checkOf (bs : List Byte) : BitVec 16 := bs.foldl checkByte 65535#16

/-- A frame of the part's own (section 11.1, R180). -/
def encodeFrame (kind : Byte) (node : Nat) (payload : List Byte) : Frame :=
  let body := kind :: BitVec.ofNat 8 node :: (natBytes 2 payload.length ++ payload)
  body ++ natBytes 2 (checkOf body).toNat

/-- The kind codes of section 11.1. -/
def kindSync : Byte := 1
def kindRequest : Byte := 2
def kindReply : Byte := 3
def kindNotice : Byte := 4
def kindSetpoint : Byte := 5
def kindFeedback : Byte := 6

/-- The kind byte, the node byte, the payload length field and the payload of a received frame. -/
def frameKind (f : Frame) : Byte := f.headD 0
def frameNode (f : Frame) : Nat := (f.getD 1 0).toNat
def frameLength (f : Frame) : Nat := beNat (slice f 2 2)
def framePayload (f : Frame) : List Byte := (f.drop 4).dropLast.dropLast

/-- A frame fails in length when its length field exceeds 1,024 or its byte count differs from 6 plus the field (R158, R180).
A frame too short to hold an envelope has no such byte count. -/
def lengthFails (f : Frame) : Bool :=
  decide (f.length < 6) || decide (frameLength f > 1024) || decide (f.length ≠ 6 + frameLength f)

/-- A frame fails its check when the check formed over every byte from the kind to the last payload byte differs from the
check it carries, its last two bytes (R158, R180). -/
def checkFails (f : Frame) : Bool :=
  decide ((checkOf (f.take (f.length - 2))).toNat ≠ beNat (f.drop (f.length - 2)))

end Sys2Proof.Machine
end

