-- ==== Sys2Proof/Machine/Arith.lean ====
section
/-! DEFINITION. The exact integer arithmetic of 00_scope 1.5.3 to 1.5.6. On Int, `/` and `%` by a positive number are the
spec's floor(x / m) and x mod m. -/

namespace Sys2Proof.Machine

/-- One turn, 2^32 tu, and one day, 2^32 eu. -/
def turn : Int := 4294967296

/-- Half a turn, 2^31. -/
def halfTurn : Int := 2147483648

/-- A quarter turn, 2^30: the poles of the sky (R46) and the bound of the observer latitude (R58). -/
def quarterTurn : Int := 1073741824

/-- 2^48, the width of the extended range, and 2^47, its half (00_scope 1.5.3, R101). -/
def extSpan : Int := 281474976710656
def extHalf : Int := 140737488355328

/-- x as an angle, 0..2^32 - 1. -/
def angle (x : Int) : Int := x % turn

/-- wrap(x): the shorter signed way round the circle, the negative one where two are equal (00_scope 1.5.3). -/
def wrap (x : Int) : Int := (x + halfTurn) % turn - halfTurn

/-- An extended position reduced into -2^47..2^47 - 1 by multiples of 2^48 (R91, R101). -/
def reduceExt (x : Int) : Int := (x + extHalf) % extSpan - extHalf

/-- Clamping to a range (00_scope 1.5.6). -/
def clamp (lo hi x : Int) : Int := if x < lo then lo else if x > hi then hi else x

/-- |x|. -/
def mag (x : Int) : Int := if x < 0 then -x else x

/-- lo ≤ x ≤ hi, both ends included. -/
def within (lo hi x : Int) : Bool := decide (lo ≤ x) && decide (x ≤ hi)

/-- The digits of the square root still to be found, the highest first. -/
def isqrtDigits : Nat → Nat → Nat → Nat
  | 0, _, r => r
  | k + 1, n, r => if (r + 2 ^ k) * (r + 2 ^ k) ≤ n then isqrtDigits k n (r + 2 ^ k) else isqrtDigits k n r

/-- isqrt(n): the greatest integer whose square does not exceed n (00_scope 1.5.6). -/
def isqrt (n : Nat) : Nat := isqrtDigits (n.log2 / 2 + 1) n 0

/-- Emin and Emax, the limits of the epoch (R1). -/
def epochMin : Int := -5000000 * turn
def epochMax : Int := 5000000 * turn + turn - 1

/-- The day limit, 5,000,000 either way (R13, R21, R30). -/
def dayLimit : Int := 5000000

/-- 2^44 - 1, the largest rate and slew (R2). -/
def rateLimit : Int := 17592186044415

/-- The day number D and the day fraction F of an epoch (00_scope 1.5.4). -/
def dayOf (e : Int) : Int := e / turn
def fractionOf (e : Int) : Int := e % turn

/-- The linear angle formula of the fallback (R47) and of the LINEAR source (R63). -/
def linearAngle (p0 w r e : Int) : Int := angle (p0 + w * fractionOf e + r * e / turn)

/-- One step of the rate toward its target by at most the slew (R5). -/
def rateStep (q qt slew : Int) : Int := if mag (qt - q) ≤ slew then qt else if qt > q then q + slew else q - slew

/-- The extra unit x of the pattern at position k for the rate's remainder (R6). -/
def extraUnit (k : Nat) (q : Int) : Int :=
  if (k : Int) * (q % 16) / 16 > ((k : Int) - 1) * (q % 16) / 16 then 1 else 0

/-- The advance of the epoch at rate q and pattern position k (R6). -/
def epochAdvance (k : Nat) (q : Int) : Int := q / 16 + extraUnit k q

/-- The pattern position after k: 16 is followed by 1 (R6). -/
def nextPattern (k : Nat) : Nat := k % 16 + 1

/-- The velocity moved toward the wanted one by at most a step (R86 to R89). -/
def velocityStep (v wanted step : Int) : Int := v + clamp (-step) step (wanted - v)

/-- sign(e)·min(vmax, isqrt(2·amax·|e|), |e|), the correction term (R85). -/
def correction (vmax amax e : Int) : Int :=
  let size := min vmax (min (isqrt (2 * amax * mag e).toNat : Int) (mag e))
  if e < 0 then -size else if e > 0 then size else 0

/-- The position nearest to p that shows the angle th, moved one turn inward where it lies beyond the wind (R69). -/
def nearestInWind (lw p th : Int) : Int :=
  let t0 := p + wrap (th - angle p)
  if t0 > lw then t0 - turn else if t0 < -lw then t0 + turn else t0

/-- The extended target T of a WOUND axis at position p for the angle th, with the wind limit lw (R69). Where that lies
outside the wind, as it can for p outside it, T is the outermost position within the wind that shows th (R70). -/
def extendedTarget (lw p th : Int) : Int :=
  let t := nearestInWind lw p th
  if within (-lw) lw t then t
  else if p > lw then (if th = 0 then lw else lw - turn + th)
  else if p < -lw then -lw + th
  else t

end Sys2Proof.Machine
end

