-- ==== Sys2Proof/Config.lean ====
section
/-! DEFINITION. What the spec fixes for the part, and the free value: what it leaves open. -/

namespace Sys2Proof.Config

/-- The axes of the part (00_scope 1.5.2, R62). -/
abbrev axisCount : Nat := 24

/-- The bodies (R38). -/
abbrev bodyCount : Nat := 12

/-- The cue channels (R145). -/
abbrev channelCount : Nat := 8

/-- The segment slots of a bank (R20). -/
def slotCount : Nat := 2048

/-- The entries of the Cue List (R145). -/
def cueCount : Nat := 256

/-- The request credits (R164). -/
def creditCount : Nat := 8

/-- The frames a forwarding buffer holds, and the SETPOINT frames that may wait unsent (R161, R162). -/
def bufferSize : Nat := 4

/-- The records of one LOAD_SEGMENTS or READ_SEGMENTS (R25, R27). -/
def segmentBatch : Nat := 28

/-- The entries of one WRITE_CUES (R149). -/
def cueBatch : Nat := 32

/-- FREE VALUE. Whether a frame that fails both its check and its length is reported as CHECK (true) or as LENGTH (false).
The spec names the two reasons and gives no order between them (R158, R180); log entry 4.
The argument numbers the readings, so nothing relates one reading to another. -/
opaque checkReasonFirst : Nat → Bool

end Sys2Proof.Config
end

