-- ==== Sys2Proof/Machine/State.lean ====
section
/-! DEFINITION. The state of the PB328, block by block (00_scope 1.3), as plain data; what each block holds after power-on
reset; the ways a step can stop. -/

namespace Sys2Proof.Machine

/-! ## The Sky Clock (chapter 1) -/

/-- The condition of the external sync stream (R15, R16); `localPaced` is the spec's LOCAL. -/
inductive CadenceState where
  | unarmed | watching | localPaced
  deriving DecidableEq, Repr

/-- The Sky Clock's state (section 1.1). The in-flight flag is the presence of `State.eval`. -/
structure Clock where
  /-- E, in eu (R1). -/
  epoch : Int
  /-- q, in sixteenths of an eu per sync (R2). -/
  rate : Int
  /-- qt (R2). -/
  target : Int
  /-- The slew (R2). -/
  slew : Int
  /-- k, 1..16 (R6). -/
  pattern : Nat
  /-- The pending epoch set (R4, R8). -/
  pendingSet : Option Int
  /-- The set-since-issue flag (R4). -/
  setSinceIssue : Bool
  /-- Eprev (R10). -/
  prevEpoch : Int
  /-- The evaluation count (R10). -/
  evalCount : BitVec 32
  /-- Xw (R13). -/
  watchDay : Int
  watchEnabled : Bool
  cadence : CadenceState
  /-- The running cadence timer's timeout, the one it was started with (R15, R18); none while it is stopped. -/
  cadenceTimer : Option Nat
  /-- The interval of the local sync already scheduled (R16, R18); none while the generator is stopped. -/
  localGenerator : Option Nat
  /-- The cadence timeout, in microseconds (R18). -/
  cadenceTimeout : Nat
  /-- The local period, in microseconds (R18). -/
  localPeriod : Nat
  deriving DecidableEq, Repr

/-! ## The Ephemeris Store (chapter 2) -/

/-- A sparse store of records: (address, record) pairs, the addresses strictly rising, no entry equal to what an unlisted
address reads as (`Slots.wf` in Machine/Ops.lean). -/
abbrev Slots (α : Type) := List (Nat × α)

/-- A segment (R21). -/
structure Segment where
  start : Int
  span : Nat
  c0 : Int
  c1 : Int
  c2 : Int
  c3 : Int
  b0 : Int
  b1 : Int
  b2 : Int
  deriving DecidableEq, Repr

/-- What a slot holds after power-on: every field 0 (R37). -/
def Segment.zero : Segment :=
  { start := 0, span := 0, c0 := 0, c1 := 0, c2 := 0, c3 := 0, b0 := 0, b1 := 0, b2 := 0 }

/-- A body descriptor (R22). -/
structure Descriptor where
  enabled : Bool
  base : Nat
  length : Nat
  phase : Int
  turns : Int
  fraction : Int
  latitude : Int
  tolerance : Int
  deriving DecidableEq, Repr

/-- Disabled, every field 0 (R37). -/
def Descriptor.zero : Descriptor :=
  { enabled := false, base := 0, length := 0, phase := 0, turns := 0, fraction := 0, latitude := 0, tolerance := 0 }

/-- One bank: 2,048 segment slots and 12 descriptors (R20). -/
structure Bank where
  slots : Slots Segment
  descriptors : Vector Descriptor Config.bodyCount
  deriving DecidableEq, Repr

/-- The recorded side of a swap at an epoch (R30). -/
inductive Side where
  | before | after
  deriving DecidableEq, Repr

/-- The swap state (R30). The shadow bank is sealed exactly while it is not `idle` (R32). -/
inductive SwapState where
  | idle
  | pendingNext
  | pendingEpoch (day : Int) (side : Side)
  deriving DecidableEq, Repr

structure Store where
  banks : Vector Bank 2
  active : Fin 2
  swap : SwapState
  deriving DecidableEq, Repr

/-! ## The Body Evaluator (chapter 3) -/

inductive Coverage where
  | unknown | covered | uncovered
  deriving DecidableEq, Repr

/-- The record of one body (R38). -/
structure Body where
  segment : Option Nat
  coverage : Coverage
  longitude : Int
  latitude : Int
  clamped : Bool
  deriving DecidableEq, Repr

/-! ## The Target Mapper and the Axis Context Store (chapters 4 to 8) -/

/-- The Site Record and the site-change flag (R58). -/
structure Site where
  latitude : Int
  longitude : Int
  changed : Bool
  deriving DecidableEq, Repr

inductive AxisKind where
  | continuous | bounded | wound
  deriving DecidableEq, Repr

inductive HomeMode where
  | search | absolute
  deriving DecidableEq, Repr

/-- Home, low limit and high limit, each active or inactive (R133); also the switches that are masked (R99). -/
structure Switches where
  home : Bool
  low : Bool
  high : Bool
  deriving DecidableEq, Repr

def Switches.none : Switches := { home := false, low := false, high := false }

/-- The travel fields but for the reference offset (R99). -/
structure Travel where
  kind : AxisKind
  softLow : Int
  softHigh : Int
  wind : Int
  vmax : Int
  amax : Int
  stopDecel : Int
  homeMode : HomeMode
  homeVelocity : Int
  homePosition : Int
  homeSpan : Int
  node : Nat
  channel : Nat
  feLimit : Int
  missLimit : Nat
  switchMask : Switches
  deriving DecidableEq, Repr

inductive SourceKind where
  | bodyLongitude | bodyLatitude | linear | siteLatitude | follow | fixed
  deriving DecidableEq, Repr

/-- A watch point (R139). -/
structure Watch where
  value : Int
  enabled : Bool
  next : Option Int
  deriving DecidableEq, Repr

/-- The target fields (R59). The offset is the 32-bit quantity whose reading depends on the axis kind. -/
structure Target where
  source : SourceKind
  index : Nat
  scale : Int
  offset : BitVec 32
  phase : Int
  turns : Int
  fraction : Int
  siteFlag : Bool
  watchA : Watch
  watchB : Watch
  deriving DecidableEq, Repr

/-- The homing phases (R97). -/
inductive Phase where
  | seek | settle | abandon
  deriving DecidableEq, Repr

/-- The axis states; an axis in HOMING is in one of its phases (R97). -/
inductive AxisState where
  | off
  | unhomed
  | homing (phase : Phase)
  | holding
  | tracking
  | halting
  | faulted
  deriving DecidableEq, Repr

/-- The fault causes (R116). -/
inductive Cause where
  | following | hardLimit | driveFault | feedbackLost | homeLimit | homeNotFound
  deriving DecidableEq, Repr

/-- The Drive Supervisor's record of an axis (R120). -/
structure Drive where
  /-- The command history, (cycle, C), oldest first (R125). -/
  history : List (BitVec 8 × Int)
  answerPending : Bool
  missCount : Nat
  /-- A_d, or unknown (R127). -/
  actual : Option Int
  faultBit : Bool
  /-- The last following error, or none (R129). -/
  followError : Option Int
  /-- The live switch image, or unknown (R133). -/
  live : Option Switches
  /-- The reported switch image (R135). -/
  reported : Switches
  deriving DecidableEq, Repr

/-- One axis context with what the Target Mapper and the Drive Supervisor hold for the axis. -/
structure Axis where
  travel : Travel
  /-- O (R101). -/
  offset : Int
  target : Target
  /-- P (R79). -/
  position : Int
  /-- v (R79). -/
  velocity : Int
  softStop : Bool
  state : AxisState
  homed : Bool
  seekStart : Int
  seekTravel : Int
  /-- The causes-seen set in the order of adding; the first cause is its first member (R118). -/
  causes : List Cause
  /-- θprev (R74). -/
  prevTarget : Int
  /-- θ and vt of the last evaluation that mapped the axis (R76). -/
  lastTarget : Int
  feedforward : Int
  targetClamped : Bool
  /-- The feedforward suppression flag (R72). -/
  suppress : Bool
  drive : Drive
  deriving DecidableEq, Repr

/-! ## Triggers, the evaluation in flight, the Cue Engine (chapters 1, 7, 8) -/

/-- The trigger kinds (R145). -/
inductive TriggerKind where
  | watchA | watchB | epochWatch | segmentChange | coverageChange | switchChange | bankSwap | axisEvent
  deriving DecidableEq, Repr

/-- A trigger kind and its index (R145). -/
structure Trigger where
  kind : TriggerKind
  index : Nat
  deriving DecidableEq, Repr

/-- A SETPOINT record as fixed at the end of a shaping (R121). -/
structure Setpoint where
  axis : Fin Config.axisCount
  node : Nat
  channel : Nat
  position : Int
  velocity : Int
  hold : Bool
  deriving DecidableEq, Repr

/-- Where an evaluation in flight stands: the next body, the next axis to map, the axis from which the shaper goes on (24 when
it has passed the last), or the servicing of its triggers after the emission (R39, R62, R80, R150). -/
inductive Stage where
  | bodies (next : Fin Config.bodyCount)
  | mapping (next : Fin Config.axisCount)
  | shaping (next : Nat)
  | servicing
  deriving DecidableEq, Repr

/-- An evaluation in flight and what it carries (R10, R35, R73, R121, R150). -/
structure Evaluation where
  number : BitVec 32
  epoch : Int
  prevEpoch : Int
  epochSet : Bool
  swapped : Bool
  stage : Stage
  /-- The axes suppressed so far, for their followers (R73). -/
  suppressed : List (Fin Config.axisCount)
  triggers : List Trigger
  records : List Setpoint
  deriving DecidableEq, Repr

/-- The action of a Cue List entry (R155, section 11.3.3). -/
inductive CueAction where
  | none
  | axisSource (axis : Fin Config.axisCount) (source : SourceKind) (index : Nat)
  | axisOffset (axis : Fin Config.axisCount) (value : BitVec 32)
  | axisScale (axis : Fin Config.axisCount) (value : Int)
  | axisState (axis : Fin Config.axisCount) (stop : Bool)
  | clockRate (target slew : Int)
  | watchLoad (axis : Fin Config.axisCount) (watchB buffer : Bool) (value : Int)
  | epochWatchSet (day : Int) (enable : Bool)
  | channelArm (channel : Fin Config.channelCount)
  | channelDisarm (channel : Fin Config.channelCount)
  | note (code : Nat)
  deriving DecidableEq, Repr

/-- A channel's mode (R145). -/
inductive ChannelMode where
  | counted | continuous
  deriving DecidableEq, Repr

/-- A cue channel (R145). -/
structure Channel where
  armed : Bool
  defined : Bool
  trigger : Trigger
  mode : ChannelMode
  count : Nat
  remaining : Nat
  listStart : Nat
  listEnd : Nat
  cursor : Nat
  advance : Bool
  deriving DecidableEq, Repr

structure Cues where
  channels : Vector Channel Config.channelCount
  /-- The Cue List; an unlisted entry is NONE. -/
  list : Slots CueAction
  /-- The held set, in the order in which its pairs entered (R151). -/
  held : List Trigger
  deriving DecidableEq, Repr

/-! ## The Notice Unit (chapter 10) -/

inductive NoticeKind where
  | fault | cadence | switch | axis | coverage | seam | cue | overrun | epochLimit | linkU | linkD | requestDrop | bankSwap
  deriving DecidableEq, Repr

/-- The reasons of a LINK notice (R158). -/
inductive LinkReason where
  | check | length | address | overflow
  deriving DecidableEq, Repr

/-- What a notice carries beside its key and count (R177). A SWITCH raise carries none: its detail is formed at sending. -/
inductive Detail where
  | fault (cause : Cause)
  | cadence (restored : Bool)
  | switch
  | axis (abandoned : Bool) (offset : Int)
  | coverage (state : Coverage)
  | seam (latitude : Bool) (size : Int)
  | cueExhausted
  | cueRefused (entry : Nat) (action : Nat)
  | cueNote (code : Nat)
  | overrun (evaluation : BitVec 32)
  | epochLimit (upper : Bool)
  | link (reason : LinkReason) (counter : Nat)
  | requestDrop (tag : Byte)
  | bankSwap (bank : Fin 2) (evaluation : BitVec 32)
  deriving DecidableEq, Repr

/-- An entry of the Notice Set (R173). -/
structure Notice where
  kind : NoticeKind
  index : Nat
  count : Nat
  detail : Detail
  deriving DecidableEq, Repr

/-! ## The Ring Interface and the Management Unit (chapter 9) -/

/-- The two ports (R158). -/
inductive Port where
  | u | d
  deriving DecidableEq, Repr

/-- What the D transmitter is sending (R162). -/
inductive DSending where
  | forwarded (frame : Frame)
  | setpoint (frame : Frame)
  deriving DecidableEq, Repr

/-- What the U transmitter is sending (R163); a REPLY holds its credit until its sending ends (R164). -/
inductive USending where
  | forwarded (frame : Frame)
  | notice (frame : Frame)
  | reply (frame : Frame)
  deriving DecidableEq, Repr

structure Ring where
  /-- The downstream forwarding buffer (R161). -/
  downstream : List Frame
  /-- The upstream forwarding buffer (R161). -/
  upstream : List Frame
  errorsU : Nat
  errorsD : Nat
  /-- SETPOINT frames handed over and not yet sent, oldest first (R162). -/
  setpoints : List Frame
  dSending : Option DSending
  uSending : Option USending
  deriving DecidableEq, Repr

/-- An admitted request (R164): the tag, the code and the arguments of its payload (section 11.3). -/
structure Request where
  tag : Byte
  code : Byte
  args : List Byte
  deriving DecidableEq, Repr

/-- The reply codes (R166). -/
inductive ReplyCode where
  | ok | kind | range | mode | state | bank
  deriving DecidableEq, Repr

/-- A reply (R166, R185). -/
structure Reply where
  tag : Byte
  code : Byte
  result : ReplyCode
  content : List Byte
  deriving DecidableEq, Repr

/-- The device mode (R167); `showing` is the spec's SHOW. -/
inductive Mode where
  | setup | showing
  deriving DecidableEq, Repr

structure Management where
  freeCredits : Nat
  requests : List Request
  replies : List Reply
  mode : Mode
  /-- A SOFT_RESET reply waits at the head of the Reply Queue, and until its sending begins no notice is offered (R171, R175). -/
  resetReply : Bool
  deriving DecidableEq, Repr

/-! ## The machine -/

/-- The whole state. `eval` is the evaluation in flight, and its presence the in-flight flag (R10, R11).
`freeCount` numbers the free values read so far and `pending` is the queue of commands that wait: both are the model's own. -/
structure State where
  clock : Clock
  eval : Option Evaluation
  store : Store
  bodies : Vector Body Config.bodyCount
  site : Site
  axes : Vector Axis Config.axisCount
  /-- The cycle number (R120). -/
  cycle : BitVec 8
  cues : Cues
  ring : Ring
  mgmt : Management
  /-- The Notice Set in the order of insertion (R173). -/
  notices : List Notice
  freeCount : Nat
  pending : List Instr
  deriving DecidableEq, Repr

/-- The ways a step can fault: none. Every error the spec names is a reply code, an axis state, a notice or a counted discard,
and the part goes on; so no command raises a fault. -/
inductive Fault where
  deriving DecidableEq, Repr

/-- The ways a step can be refused. -/
inductive Refusal where
  /-- No meaning for the command yet. Raised by no command of this model; safe, since the machine would stop. -/
  | notModelled (mnemonic : String)
  deriving DecidableEq, Repr

/-! ## Power-on reset -/

/-- R19. -/
def Clock.reset : Clock :=
  { epoch := 0, rate := 0, target := 0, slew := 16, pattern := 1, pendingSet := none, setSinceIssue := false, prevEpoch := 0,
    evalCount := 0, watchDay := 0, watchEnabled := false, cadence := .unarmed, cadenceTimer := none, localGenerator := none,
    cadenceTimeout := 10000, localPeriod := 1000 }

/-- R37. -/
def Bank.reset : Bank := { slots := [], descriptors := Vector.replicate _ Descriptor.zero }

def Store.reset : Store := { banks := Vector.replicate _ Bank.reset, active := 0, swap := .idle }

/-- R56. -/
def Body.reset : Body := { segment := none, coverage := .unknown, longitude := 0, latitude := 0, clamped := false }

/-- R77. -/
def Site.reset : Site := { latitude := 0, longitude := 0, changed := false }

/-- R99. -/
def Travel.reset : Travel :=
  { kind := .continuous, softLow := -2147483648, softHigh := 2147483647, wind := 1, vmax := 1048576, amax := 4096,
    stopDecel := 16384, homeMode := .search, homeVelocity := 65536, homePosition := 0, homeSpan := 8589934592, node := 0,
    channel := 0, feLimit := 16777216, missLimit := 4, switchMask := Switches.none }

/-- R144. -/
def Watch.reset : Watch := { value := 0, enabled := false, next := none }

/-- R77. -/
def Target.reset : Target :=
  { source := .fixed, index := 0, scale := 65536, offset := 0, phase := 0, turns := 0, fraction := 0, siteFlag := false,
    watchA := Watch.reset, watchB := Watch.reset }

/-- R138. -/
def Drive.reset : Drive :=
  { history := [], answerPending := false, missCount := 0, actual := none, faultBit := false, followError := none, live := none,
    reported := Switches.none }

/-- R77, R96, R99, R119. -/
def Axis.reset : Axis :=
  { travel := Travel.reset, offset := 0, target := Target.reset, position := 0, velocity := 0, softStop := false, state := .off,
    homed := false, seekStart := 0, seekTravel := 0, causes := [], prevTarget := 0, lastTarget := 0, feedforward := 0,
    targetClamped := false, suppress := false, drive := Drive.reset }

/-- R157. -/
def Channel.reset : Channel :=
  { armed := false, defined := false, trigger := { kind := .watchA, index := 0 }, mode := .continuous, count := 0,
    remaining := 0, listStart := 0, listEnd := 0, cursor := 0, advance := false }

def Cues.reset : Cues := { channels := Vector.replicate _ Channel.reset, list := [], held := [] }

/-- R169, R172. -/
def Ring.reset : Ring :=
  { downstream := [], upstream := [], errorsU := 0, errorsD := 0, setpoints := [], dSending := none, uSending := none }

def Management.reset : Management :=
  { freeCredits := Config.creditCount, requests := [], replies := [], mode := .setup, resetReply := false }

/-- The part right after power-on reset, with an empty queue of commands. -/
def State.reset : State :=
  { clock := Clock.reset, eval := none, store := Store.reset, bodies := Vector.replicate _ Body.reset, site := Site.reset,
    axes := Vector.replicate _ Axis.reset, cycle := 0, cues := Cues.reset, ring := Ring.reset, mgmt := Management.reset,
    notices := [], freeCount := 0, pending := [] }

end Sys2Proof.Machine
end

