-- ==== Sys2Proof/Machine/Flags.lean ====
section
/-! DEFINITION. The tests that decide the part's flags, marks and triggers, each a Bool of the values its rule names. -/

namespace Sys2Proof.Machine

/-- The epoch watch is crossed by the move from Eprev to E (R13). -/
def epochWatchCrossed (w prev e : Int) : Bool :=
  (decide (e > prev) && decide (prev < w) && decide (w ≤ e)) || (decide (e < prev) && decide (e ≤ w) && decide (w < prev))

/-- A pending swap falls due at an evaluation issued with epoch e (R33, R34). -/
def swapDue (swap : SwapState) (e : Int) : Bool :=
  match swap with
  | .idle => false
  | .pendingNext => true
  | .pendingEpoch day .before => decide (e ≥ day * turn)
  | .pendingEpoch day .after => decide (e < day * turn)

/-- The side recorded when an epoch form of SWAP_BANKS is accepted (R30). -/
def swapSide (day e : Int) : Side := if e < day * turn then .before else .after

/-- A bank is sealed when it is the shadow and a swap is pending (R32). -/
def Store.sealed (s : Store) (bank : Fin 2) : Bool := decide (bank ≠ s.active) && decide (s.swap ≠ .idle)

/-- The segment covers the day (R40). -/
def Segment.covers (g : Segment) (day : Int) : Bool := decide (g.start ≤ day) && decide (day < g.start + g.span)

/-- Latitude saturation (R46). -/
def latitudeSaturated (a : Int) : Bool := !within (-quarterTurn) quarterTurn a

/-- Window positions i and j hold segments that meet end to start, the lower position ending where the higher begins (R51). -/
def adjacent (i j : Nat) (gi gj : Segment) : Bool :=
  (decide (j = i + 1) && decide (gj.start = gi.start + gi.span)) || (decide (i = j + 1) && decide (gi.start = gj.start + gj.span))

/-- The longitude seam and the latitude seam of an earlier and a later segment (R52). -/
def lonSeam (e l : Segment) : Int := wrap (l.c0 - (e.c0 + e.c1 + e.c2 + e.c3))
def latSeam (e l : Segment) : Int := l.b0 - (e.b0 + e.b1 + e.b2)

/-- A seam mismatch: the magnitude of either seam exceeds the tolerance (R52). -/
def seamMismatch (e l : Segment) (tolerance : Int) : Bool :=
  decide (mag (lonSeam e l) > tolerance) || decide (mag (latSeam e l) > tolerance)

/-- The SEAM notice names the latitude: its seam has the strictly larger magnitude (R52). -/
def seamNamesLatitude (e l : Segment) : Bool := decide (mag (latSeam e l) > mag (lonSeam e l))

/-- The wind limit Lwd in tu (R57). -/
def Travel.windLimit (t : Travel) : Int := t.wind * turn

/-- The range in which a BOUNDED or WOUND axis may be tracked (R108); a CONTINUOUS axis is not tested. -/
def Travel.inLimits (t : Travel) (p : Int) : Bool :=
  match t.kind with
  | .continuous => true
  | .bounded => within t.softLow t.softHigh p
  | .wound => within (-t.windLimit) t.windLimit p

/-- A target clamp: the unclamped target of a BOUNDED axis lies outside its soft limits (R67). -/
def targetClamps (t : Travel) (unclamped : Int) : Bool :=
  match t.kind with
  | .bounded => !within t.softLow t.softHigh unclamped
  | .continuous | .wound => false

/-- The limit stops apply to an axis shaped in this state with this HOMED flag (R81). -/
def stopsApply (state : AxisState) (homed : Bool) : Bool :=
  homed && (decide (state = .holding) || decide (state = .tracking))

/-- The limits of travel that a limit stop holds: the soft limits (R93) or the wind (R94). -/
def Travel.stopLimits (t : Travel) : Option (Int × Int) :=
  match t.kind with
  | .continuous => none
  | .bounded => some (t.softLow, t.softHigh)
  | .wound => some (-t.windLimit, t.windLimit)

/-- The hold flag of a record: clear when the axis was shaped in TRACKING or in phase SEEK (R121). -/
def holdFlag (state : AxisState) : Bool := decide (state ≠ .tracking) && decide (state ≠ .homing .seek)

/-- A watch at w is crossed by the shaping from pOld to pNew at velocity v (R141). -/
def watchCrossed (kind : AxisKind) (w pOld pNew v : Int) : Bool :=
  match kind with
  | .continuous =>
      (decide (v > 0) && within 1 v (angle (w - pOld))) || (decide (v < 0) && within 1 (-v) (angle (pOld - w)))
  | .bounded | .wound =>
      (decide (pNew > pOld) && decide (pOld < w) && decide (w ≤ pNew)) ||
        (decide (pNew < pOld) && decide (pNew ≤ w) && decide (w < pOld))

/-- A switch that is masked reads as inactive (R133). -/
def Switches.masked (i mask : Switches) : Switches :=
  { home := i.home && !mask.home, low := i.low && !mask.low, high := i.high && !mask.high }

/-- A live change: the image before was known and the refreshed one differs from it (R133). -/
def liveChange (before : Option Switches) (after : Switches) : Bool :=
  match before with
  | none => false
  | some b => decide (b ≠ after)

/-- The home bit goes from inactive to active in a live change (R112). -/
def homeEdge (before : Option Switches) (after : Switches) : Bool :=
  match before with
  | none => false
  | some b => !b.home && after.home

/-- The limit switch in the search direction reads active (R113). -/
def homeLimit (homeVelocity : Int) (i : Switches) : Bool :=
  (decide (homeVelocity < 0) && i.low) || (decide (homeVelocity > 0) && i.high)

/-- A hard limit: a known image shows a limit active and the velocity is directed at it (R131). -/
def hardLimit (live : Option Switches) (v : Int) : Bool :=
  match live with
  | none => false
  | some i => (i.low && decide (v < 0)) || (i.high && decide (v > 0))

/-- The causes that clear HOMED (R116, R117). -/
def Cause.clearsHomed : Cause → Bool
  | .driveFault | .feedbackLost => true
  | .following | .hardLimit | .homeLimit | .homeNotFound => false

/-- Class A notices (R173). -/
def NoticeKind.classA : NoticeKind → Bool
  | .fault | .cadence => true
  | .switch | .axis | .coverage | .seam | .cue | .overrun | .epochLimit | .linkU | .linkD | .requestDrop | .bankSwap => false

/-- A position in the range of the axis kind: a watch value, a Next value (R139, R140), a reference offset (R101). -/
def positionInRange (kind : AxisKind) (v : Int) : Bool :=
  match kind with
  | .continuous => within 0 (turn - 1) v
  | .bounded | .wound => within (-extHalf) (extHalf - 1) v

/-- A source kind and index that an axis may hold (R60): a body below 12, a leader below the axis itself; the other kinds use no
index. -/
def sourceAccepted (axis : Nat) (kind : SourceKind) (index : Int) : Bool :=
  match kind with
  | .bodyLongitude | .bodyLatitude => within 0 11 index
  | .follow => decide (0 ≤ index) && decide (index < axis)
  | .linear | .siteLatitude | .fixed => true

/-- The index recorded for a source: 0 for the kinds that use none (R60). -/
def sourceIndex (kind : SourceKind) (index : Int) : Nat :=
  match kind with
  | .bodyLongitude | .bodyLatitude | .follow => index.toNat
  | .linear | .siteLatitude | .fixed => 0

/-- A rate and a slew in range (R9). -/
def rateAccepted (qt slew : Int) : Bool := within (-rateLimit) rateLimit qt && within 1 rateLimit slew

end Sys2Proof.Machine
end

