-- ==== Sys2Proof/Machine/Operands.lean ====
section
/-! DEFINITION. What stands in the payloads: the codes of the enumerated values, the records, and the axis field items
(chapter 11). -/

namespace Sys2Proof.Machine

/-! ## Codes (R182, R183, section 11.4) -/

def AxisKind.code : AxisKind → Nat
  | .continuous => 0 | .bounded => 1 | .wound => 2

def axisKindOf (n : Int) : Option AxisKind :=
  if n = 0 then some .continuous else if n = 1 then some .bounded else if n = 2 then some .wound else none

def HomeMode.code : HomeMode → Nat
  | .search => 0 | .absolute => 1

def homeModeOf (n : Int) : Option HomeMode :=
  if n = 0 then some .search else if n = 1 then some .absolute else none

def SourceKind.code : SourceKind → Nat
  | .bodyLongitude => 0 | .bodyLatitude => 1 | .linear => 2 | .siteLatitude => 3 | .follow => 4 | .fixed => 5

def sourceKindOf (n : Int) : Option SourceKind :=
  if n = 0 then some .bodyLongitude else if n = 1 then some .bodyLatitude else if n = 2 then some .linear
  else if n = 3 then some .siteLatitude else if n = 4 then some .follow else if n = 5 then some .fixed else none

def AxisState.code : AxisState → Nat
  | .off => 0 | .unhomed => 1 | .homing _ => 2 | .holding => 3 | .tracking => 4 | .halting => 5 | .faulted => 6

/-- SEEK, SETTLE, ABANDON, with 255 for none. -/
def AxisState.phaseCode : AxisState → Nat
  | .homing .seek => 0 | .homing .settle => 1 | .homing .abandon => 2
  | .off | .unhomed | .holding | .tracking | .halting | .faulted => 255

def ChannelMode.code : ChannelMode → Nat
  | .counted => 0 | .continuous => 1

def TriggerKind.code : TriggerKind → Nat
  | .watchA => 0 | .watchB => 1 | .epochWatch => 2 | .segmentChange => 3 | .coverageChange => 4 | .switchChange => 5
  | .bankSwap => 6 | .axisEvent => 7

def triggerKindOf (n : Nat) : Option TriggerKind :=
  match n with
  | 0 => some .watchA | 1 => some .watchB | 2 => some .epochWatch | 3 => some .segmentChange | 4 => some .coverageChange
  | 5 => some .switchChange | 6 => some .bankSwap | 7 => some .axisEvent | _ => none

/-- How many indexes a trigger kind takes (R145). -/
def TriggerKind.indexes : TriggerKind → Nat
  | .watchA | .watchB | .switchChange | .axisEvent => Config.axisCount
  | .segmentChange | .coverageChange => Config.bodyCount
  | .epochWatch | .bankSwap => 1

def SwapState.code : SwapState → Nat
  | .idle => 0 | .pendingNext => 1 | .pendingEpoch _ _ => 2

def Side.code : Side → Nat
  | .before => 0 | .after => 1

def Coverage.code : Coverage → Nat
  | .unknown => 0 | .covered => 1 | .uncovered => 2

def Mode.code : Mode → Nat
  | .setup => 0 | .showing => 1

def CadenceState.code : CadenceState → Nat
  | .unarmed => 0 | .watching => 1 | .localPaced => 2

def ReplyCode.code : ReplyCode → Nat
  | .ok => 0 | .kind => 1 | .range => 2 | .mode => 3 | .state => 4 | .bank => 5

def Cause.code : Cause → Nat
  | .following => 1 | .hardLimit => 2 | .driveFault => 3 | .feedbackLost => 4 | .homeLimit => 5 | .homeNotFound => 6

def LinkReason.code : LinkReason → Nat
  | .check => 0 | .length => 1 | .address => 2 | .overflow => 3

def NoticeKind.code : NoticeKind → Nat
  | .fault => 1 | .cadence => 2 | .switch => 3 | .axis => 4 | .coverage => 5 | .seam => 6 | .cue => 7 | .overrun => 8
  | .epochLimit => 9 | .linkU => 10 | .linkD => 11 | .requestDrop => 12 | .bankSwap => 13

def CueAction.code : CueAction → Nat
  | .none => 0 | .axisSource _ _ _ => 1 | .axisOffset _ _ => 2 | .axisScale _ _ => 3 | .axisState _ _ => 4
  | .clockRate _ _ => 5 | .watchLoad _ _ _ _ => 6 | .epochWatchSet _ _ => 7 | .channelArm _ => 8 | .channelDisarm _ => 9
  | .note _ => 10

/-- A switch image as its bits: bit 0 home, bit 1 low limit, bit 2 high limit (section 11.2). -/
def Switches.bits (i : Switches) : Nat := i.home.toNat + 2 * i.low.toNat + 4 * i.high.toNat

def switchesOf (b : Byte) : Switches := { home := b.getLsbD 0, low := b.getLsbD 1, high := b.getLsbD 2 }

/-- A byte that holds a small code. -/
def codeByte (n : Nat) : Byte := BitVec.ofNat 8 n

/-- The axis, body, channel or bank that a number names, if it is in range. -/
def indexOf (n k : Nat) : Option (Fin n) := if h : k < n then some ⟨k, h⟩ else none

/-! ## Segments and descriptors (section 11.3.1) -/

def segmentBytes : Nat := 34

def decodeSegment (bs : List Byte) : Segment :=
  { start := beInt (slice bs 0 4), span := beNat (slice bs 4 2), c0 := beNat (slice bs 6 4), c1 := beInt (slice bs 10 4),
    c2 := beInt (slice bs 14 4), c3 := beInt (slice bs 18 4), b0 := beInt (slice bs 22 4), b1 := beInt (slice bs 26 4),
    b2 := beInt (slice bs 30 4) }

def encodeSegment (g : Segment) : List Byte :=
  intBytes 4 g.start ++ natBytes 2 g.span ++ intBytes 4 g.c0 ++ intBytes 4 g.c1 ++ intBytes 4 g.c2 ++ intBytes 4 g.c3 ++
    intBytes 4 g.b0 ++ intBytes 4 g.b1 ++ intBytes 4 g.b2

def descriptorBytes : Nat := 22

def decodeDescriptor (bs : List Byte) : Descriptor :=
  { enabled := decide (slice bs 0 1 = [1]), base := beNat (slice bs 1 2), length := beNat (slice bs 3 2),
    phase := beNat (slice bs 5 4), turns := beInt (slice bs 9 1), fraction := beInt (slice bs 10 4),
    latitude := beInt (slice bs 14 4), tolerance := beNat (slice bs 18 4) }

def encodeDescriptor (d : Descriptor) : List Byte :=
  [flagByte d.enabled] ++ natBytes 2 d.base ++ natBytes 2 d.length ++ intBytes 4 d.phase ++ intBytes 1 d.turns ++
    intBytes 4 d.fraction ++ intBytes 4 d.latitude ++ intBytes 4 d.tolerance

/-! ## Cue List entries (section 11.3.3) -/

def cueBytes : Nat := 13

/-- A Cue List entry, or none where WRITE_CUES refuses it: an action code above 10, an axis above 23, a channel above 7, a
selector without a meaning (R149), or a source kind byte that names none of the six (R184; log entry 9). The ranges of source index,
rate, value and day are not tested here (R149). -/
def decodeCue (bs : List Byte) : Option CueAction :=
  let axis := indexOf Config.axisCount (beNat (slice bs 1 1))
  let channel := indexOf Config.channelCount (beNat (slice bs 1 1))
  let selector := beNat (slice bs 2 1)
  match beNat (slice bs 0 1) with
  | 0 => some .none
  | 1 =>
    match sourceKindOf selector with
    | some k => axis.map fun a => .axisSource a k (beNat (slice bs 3 1))
    | none => none
  | 2 => axis.map fun a => .axisOffset a (BitVec.ofNat 32 (beNat (slice bs 2 4)))
  | 3 => axis.map fun a => .axisScale a (beInt (slice bs 2 4))
  | 4 => if selector < 2 then axis.map fun a => .axisState a (decide (selector = 1)) else none
  | 5 => some (.clockRate (beInt (slice bs 1 6)) (beNat (slice bs 7 6)))
  | 6 =>
      if selector < 4 then
        axis.map fun a => .watchLoad a (decide (selector % 2 = 1)) (decide (selector / 2 = 1)) (beInt (slice bs 3 6))
      else none
  | 7 =>
      if beNat (slice bs 5 1) < 2 then some (.epochWatchSet (beInt (slice bs 1 4)) (decide (beNat (slice bs 5 1) = 1))) else none
  | 8 => channel.map .channelArm
  | 9 => channel.map .channelDisarm
  | 10 => some (.note (beNat (slice bs 1 1)))
  | _ => none

/-! ## FEEDBACK and SETPOINT (section 11.2) -/

/-- One FEEDBACK record (R124). -/
structure FeedbackRecord where
  channel : Nat
  switches : Switches
  fault : Bool
  actual : Int
  deriving DecidableEq, Repr

def decodeFeedbackRecord (bs : List Byte) : FeedbackRecord :=
  { channel := beNat (slice bs 0 1), switches := switchesOf (bs.getD 1 0), fault := (bs.getD 1 0).getLsbD 3,
    actual := beInt (slice bs 2 6) }

/-- The echoed cycle and the records of a FEEDBACK payload; none where the Drive Supervisor takes none of its records (R181). -/
def decodeFeedback (payload : List Byte) : Option (BitVec 8 × List FeedbackRecord) :=
  let n := beNat (slice payload 1 1)
  if 1 ≤ n ∧ n ≤ 4 ∧ payload.length = 2 + 8 * n then
    some (payload.headD 0, (chunks 8 n (payload.drop 2)).map decodeFeedbackRecord)
  else none

def encodeSetpoint (r : Setpoint) : List Byte :=
  [codeByte r.node, codeByte r.channel, flagByte r.hold] ++ intBytes 6 r.position ++ intBytes 4 r.velocity

/-- The SETPOINT frame of a cycle, to node 31 (R122). -/
def setpointFrame (cycle : BitVec 8) (records : List Setpoint) : Frame :=
  encodeFrame kindSetpoint 31 (cycle :: codeByte records.length :: records.flatMap encodeSetpoint)

/-! ## REPLY and NOTICE (sections 11.3 and 11.4) -/

def replyFrame (r : Reply) : Frame :=
  encodeFrame kindReply 0 (r.tag :: r.code :: codeByte r.result.code :: r.content)

/-- The bytes of a notice's detail. A SWITCH notice carries the live image and the reported image it is given (R135). -/
def Detail.bytes (live reported : Switches) : Detail → List Byte
  | .fault c => [codeByte c.code]
  | .cadence restored => [flagByte restored]
  | .switch => [codeByte live.bits, codeByte reported.bits]
  | .axis abandoned offset => flagByte abandoned :: intBytes 6 offset
  | .coverage c => [codeByte c.code]
  | .seam latitude size => flagByte latitude :: intBytes 6 size
  | .cueExhausted => [0, 0, 0]
  | .cueRefused entry action => [1, codeByte entry, codeByte action]
  | .cueNote code => [2, codeByte code, 0]
  | .overrun n => natBytes 4 n.toNat
  | .epochLimit upper => [flagByte upper]
  | .link reason counter => codeByte reason.code :: natBytes 2 counter
  | .requestDrop tag => [tag]
  | .bankSwap bank n => codeByte bank.val :: natBytes 4 n.toNat

def noticeFrame (live reported : Switches) (n : Notice) : Frame :=
  encodeFrame kindNotice 0
    (codeByte n.kind.code :: codeByte n.index :: flagByte (!n.kind.classA) :: codeByte n.count :: n.detail.bytes live reported)

/-! ## Axis field items (R183) -/

/-- The value -2^63: absent in a Next field, unknown or none in an item that READ_AXIS returns. -/
def absentValue : Int := -9223372036854775808

/-- The offset as the axis kind reads it (R59): signed for a BOUNDED axis, an angle for the others. -/
def readOffset (kind : AxisKind) (offset : BitVec 32) : Int :=
  match kind with
  | .bounded => offset.toInt
  | .continuous | .wound => (offset.toNat : Int)

def flagValue (b : Bool) : Int := if b then 1 else 0

/-- The value of an axis item by its identifier (R183). P is returned as it is held, whatever the kind has become (R100; log entry
28). -/
def axisItem (x : Axis) (site : Site) (id : Nat) : Int :=
  match id with
  | 1 => x.travel.kind.code
  | 2 => x.travel.softLow
  | 3 => x.travel.softHigh
  | 4 => x.travel.wind
  | 5 => x.travel.vmax
  | 6 => x.travel.amax
  | 7 => x.travel.stopDecel
  | 8 => x.travel.homeMode.code
  | 9 => x.travel.homeVelocity
  | 10 => x.travel.homePosition
  | 11 => x.travel.homeSpan
  | 12 => x.travel.node
  | 13 => x.travel.channel
  | 14 => x.travel.feLimit
  | 15 => x.travel.missLimit
  | 16 => x.travel.switchMask.bits
  | 17 => x.offset
  | 32 => x.target.source.code
  | 33 => x.target.index
  | 34 => x.target.scale
  | 35 => readOffset x.travel.kind x.target.offset
  | 36 => x.target.phase
  | 37 => x.target.turns
  | 38 => x.target.fraction
  | 39 => flagValue x.target.siteFlag
  | 40 => x.target.watchA.value
  | 41 => flagValue x.target.watchA.enabled
  | 42 => x.target.watchA.next.getD absentValue
  | 43 => x.target.watchB.value
  | 44 => flagValue x.target.watchB.enabled
  | 45 => x.target.watchB.next.getD absentValue
  | 64 => x.position
  | 65 => x.velocity
  | 66 => flagValue x.softStop
  | 67 => x.state.code
  | 68 => x.state.phaseCode
  | 69 => flagValue x.homed
  | 70 => (x.causes.head?.map fun c => (c.code : Int)).getD 0
  | 71 => x.lastTarget
  | 72 => x.feedforward
  | 73 => flagValue x.targetClamped
  | 74 => flagValue x.suppress
  | 75 => x.seekStart
  | 76 => x.seekTravel
  | 77 => flagValue x.drive.answerPending
  | 78 => x.drive.missCount
  | 79 => x.drive.actual.getD absentValue
  | 80 => flagValue x.drive.faultBit
  | 81 => x.drive.followError.getD absentValue
  | 82 => site.latitude
  | 83 => site.longitude
  | 84 => (x.drive.live.map fun i => (i.bits : Int)).getD absentValue
  | 85 => x.drive.reported.bits
  | _ => 0

/-- Travel fields are identifiers 1 to 17, target fields 32 to 45 (section 11.3.2). -/
def isTravelField (id : Nat) : Bool := decide (1 ≤ id ∧ id ≤ 17)
def isTargetField (id : Nat) : Bool := decide (32 ≤ id ∧ id ≤ 45)

/-- The target fields that suppress feedforward when they are written: source, scale, offset and linear record, but not the
watch fields (R60). -/
def suppressesFeedforward (id : Nat) : Bool := decide (32 ≤ id ∧ id ≤ 39)

/-- The identifiers of the groups TRAVEL, TARGET and MOTION in ascending order (R185). -/
def groupItems (group : Nat) : List Nat :=
  match group with
  | 0 => List.range' 1 17
  | 1 => List.range' 32 14 ++ [82, 83]
  | _ => List.range' 64 18 ++ [84, 85]

def itemBytes : Nat := 9

def encodeItem (id : Nat) (v : Int) : List Byte := codeByte id :: intBytes 8 v

def decodeItem (bs : List Byte) : Nat × Int := (beNat (slice bs 0 1), beInt (slice bs 1 8))

end Sys2Proof.Machine
end

