-- ==== Sys2Proof/Machine/Ops.lean ====
section
/-! DEFINITION. The operations that the commands share: the sparse stores, the axis contexts, the Notice Set, the taking of a
fault cause, the buffers and the two transmitters, and the execution of the request at the head of the Request Queue. -/

namespace Sys2Proof.Machine

/-! ## Sparse stores: segment slots (R20) and the Cue List (R145) -/

/-- The record at an address; an unlisted address reads as `dflt`. -/
def Slots.read {α : Type} (dflt : α) : Slots α → Nat → α
  | [], _ => dflt
  | (k, x) :: rest, i => if k = i then x else Slots.read dflt rest i

/-- The store with one record written; writing `dflt` removes the entry, so that equal stores are equal lists. -/
def Slots.write {α : Type} [DecidableEq α] (dflt : α) : Slots α → Nat → α → Slots α
  | [], i, x => if x = dflt then [] else [(i, x)]
  | (k, y) :: rest, i, x =>
      if i < k then (if x = dflt then (k, y) :: rest else (i, x) :: (k, y) :: rest)
      else if i = k then (if x = dflt then rest else (i, x) :: rest)
      else (k, y) :: Slots.write dflt rest i x

/-- Records written at consecutive addresses from i. -/
def Slots.writeAll {α : Type} [DecidableEq α] (dflt : α) : Slots α → Nat → List α → Slots α
  | m, _, [] => m
  | m, i, x :: xs => Slots.writeAll dflt (Slots.write dflt m i x) (i + 1) xs

/-- Every address lies above `low` and the addresses rise strictly. -/
def Slots.above {α : Type} : Nat → Slots α → Bool
  | _, [] => true
  | low, (k, _) :: rest => decide (low ≤ k) && Slots.above (k + 1) rest

/-- The canonical form: the addresses rise strictly and no entry equals what an unlisted address reads as. -/
def Slots.wf {α : Type} [DecidableEq α] (dflt : α) (m : Slots α) : Bool :=
  Slots.above 0 m && m.all fun e => decide (e.2 ≠ dflt)

/-! ## The parts of the state -/

/-- The in-flight flag (R10). -/
def State.inFlight (s : State) : Bool := s.eval.isSome

def State.axis (s : State) (a : Fin Config.axisCount) : Axis := s.axes.get a
def State.setAxis (s : State) (a : Fin Config.axisCount) (x : Axis) : State := { s with axes := s.axes.set a.val x a.isLt }

def State.body (s : State) (b : Fin Config.bodyCount) : Body := s.bodies.get b
def State.setBody (s : State) (b : Fin Config.bodyCount) (x : Body) : State := { s with bodies := s.bodies.set b.val x b.isLt }

def State.channel (s : State) (c : Fin Config.channelCount) : Channel := s.cues.channels.get c
def State.setChannel (s : State) (c : Fin Config.channelCount) (x : Channel) : State :=
  { s with cues := { s.cues with channels := s.cues.channels.set c.val x c.isLt } }

def State.bank (s : State) (b : Fin 2) : Bank := s.store.banks.get b
def State.setBank (s : State) (b : Fin 2) (x : Bank) : State :=
  { s with store := { s.store with banks := s.store.banks.set b.val x b.isLt } }

def Bank.segment (b : Bank) (slot : Nat) : Segment := Slots.read Segment.zero b.slots slot
def Bank.descriptor (b : Bank) (body : Fin Config.bodyCount) : Descriptor := b.descriptors.get body

/-- The active bank and the shadow bank (R20). -/
def Store.activeBank (t : Store) : Bank := t.banks.get t.active
def Store.shadow (t : Store) : Fin 2 := if t.active = 0 then 1 else 0

/-- The entry of the Cue List; an unlisted entry is NONE (R157). -/
def State.cueEntry (s : State) (i : Nat) : CueAction := Slots.read CueAction.none s.cues.list i

/-- The axes in ascending number. -/
def allAxes : List (Fin Config.axisCount) := List.finRange Config.axisCount

/-- Triggers that arise in the evaluation in flight join its list (R150). -/
def State.addTriggers (s : State) (ts : List Trigger) : State :=
  { s with eval := s.eval.map fun e => { e with triggers := e.triggers ++ ts } }

/-! ## The Notice Set (R173, R174) -/

def Notice.hasKey (kind : NoticeKind) (index : Nat) (n : Notice) : Bool := decide (n.kind = kind) && decide (n.index = index)

/-- An entry stands unsent for the key. -/
def State.standing (s : State) (kind : NoticeKind) (index : Nat) : Bool := s.notices.any (Notice.hasKey kind index)

/-- A raise makes an entry of count 1 at the end, or coalesces into the standing one: its count rises, saturating at 255, its
detail is replaced and it keeps its place (R174). -/
def raiseInto (kind : NoticeKind) (index : Nat) (detail : Detail) (ns : List Notice) : List Notice :=
  if ns.any (Notice.hasKey kind index) then
    ns.map fun n => if n.hasKey kind index then { n with count := min 255 (n.count + 1), detail := detail } else n
  else ns ++ [{ kind := kind, index := index, count := 1, detail := detail }]

def State.raise (s : State) (kind : NoticeKind) (index : Nat) (detail : Detail) : State :=
  { s with notices := raiseInto kind index detail s.notices }

/-! ## Fault causes (R116, R117) -/

/-- A fault cause taken for an axis. In a live state it is a fault entry: the axis becomes HALTING, the cause is the first of
its record, FAULT is raised and an AXIS_EVENT trigger is produced (R116). In HALTING or FAULTED a new cause is added and FAULT
raised again, with no trigger; a cause already seen changes nothing (R117). For an OFF axis it is not taken. -/
def State.raiseFault (s : State) (a : Fin Config.axisCount) (c : Cause) : State × List Trigger :=
  let x := s.axis a
  match x.state with
  | .off => (s, [])
  | .halting | .faulted =>
      if c ∈ x.causes then (s, [])
      else
        ((s.setAxis a { x with causes := x.causes ++ [c], homed := x.homed && !c.clearsHomed }).raise .fault a.val (.fault c), [])
  | .unhomed | .homing _ | .holding | .tracking =>
      ((s.setAxis a { x with state := .halting, causes := [c], homed := x.homed && !c.clearsHomed }).raise .fault a.val (.fault c),
        [{ kind := .axisEvent, index := a.val }])

/-! ## Discards and forwarding buffers (R158, R161) -/

/-- A discard at a port: the port's counter rises by 1, saturating at 65,535, and its LINK notice is raised with the reason and
the counter's value after the increase (R158). -/
def State.discard (s : State) (port : Port) (reason : LinkReason) : State :=
  match port with
  | .u =>
      let n := min 65535 (s.ring.errorsU + 1)
      State.raise { s with ring := { s.ring with errorsU := n } } .linkU 0 (.link reason n)
  | .d =>
      let n := min 65535 (s.ring.errorsD + 1)
      State.raise { s with ring := { s.ring with errorsD := n } } .linkD 0 (.link reason n)

/-- A frame from the U port placed in the downstream buffer, or discarded where the buffer is full (R161). -/
def State.placeDownstream (s : State) (f : Frame) : State :=
  if s.ring.downstream.length < Config.bufferSize then
    { s with ring := { s.ring with downstream := s.ring.downstream ++ [f] } }
  else s.discard .u .overflow

/-- A frame from the D port placed in the upstream buffer, or discarded where the buffer is full (R161). -/
def State.placeUpstream (s : State) (f : Frame) : State :=
  if s.ring.upstream.length < Config.bufferSize then
    { s with ring := { s.ring with upstream := s.ring.upstream ++ [f] } }
  else s.discard .d .overflow

/-- A SETPOINT frame handed to the D transmitter; where four wait, the oldest is discarded (R162). -/
def State.handOver (s : State) (f : Frame) : State :=
  let waiting := if s.ring.setpoints.length < Config.bufferSize then s.ring.setpoints else s.ring.setpoints.tail
  { s with ring := { s.ring with setpoints := waiting ++ [f] } }

/-! ## The transmitters (R162, R163) -/

/-- The idle D transmitter's choice: a waiting SETPOINT frame, else the head of the downstream buffer (R162). -/
def State.chooseD (s : State) : State :=
  match s.ring.setpoints with
  | f :: rest => { s with ring := { s.ring with setpoints := rest, dSending := some (.setpoint f) } }
  | [] =>
    match s.ring.downstream with
    | f :: rest => { s with ring := { s.ring with downstream := rest, dSending := some (.forwarded f) } }
    | [] => s

/-- The entry of a class that the Notice Unit offers: the earliest in the order of insertion (R175). None is offered while a
SOFT_RESET reply waits (R171). -/
def State.offered (s : State) (classA : Bool) : Option Notice :=
  if s.mgmt.resetReply then none else s.notices.find? fun n => n.kind.classA == classA

/-- The axis whose images a notice carries: that of a SWITCH notice. -/
def Notice.switchAxis (n : Notice) : Option (Fin Config.axisCount) :=
  if n.kind = .switch then indexOf Config.axisCount n.index else none

/-- The live image that a SWITCH notice of the axis carries: the reported one where the live one is unknown (R135). -/
def Axis.sentImage (x : Axis) : Switches := x.drive.live.getD x.drive.reported

/-- The frame of a notice as its sending begins. A SWITCH notice carries the live image and the reported image as they stand. -/
def State.frameOf (s : State) (n : Notice) : Frame :=
  match n.switchAxis with
  | some a => noticeFrame (s.axis a).sentImage (s.axis a).drive.reported n
  | none => noticeFrame Switches.none Switches.none n

/-- The axes as the sending of a notice begins: the reported image of a SWITCH notice's axis becomes the image sent (R135). -/
def State.axesAfterSending (s : State) (n : Notice) : Vector Axis Config.axisCount :=
  match n.switchAxis with
  | some a => s.axes.set a.val { s.axis a with drive := { (s.axis a).drive with reported := (s.axis a).sentImage } } a.isLt
  | none => s.axes

/-- The sending of a notice begins: the entry leaves the set and its frame is fixed (R176). -/
def State.sendNotice (s : State) (n : Notice) : State :=
  { s with
    notices := s.notices.filter fun m => !m.hasKey n.kind n.index,
    axes := s.axesAfterSending n,
    ring := { s.ring with uSending := some (.notice (s.frameOf n)) } }

/-- The idle U transmitter's choice: the upstream buffer, the class A notice, the Reply Queue, the class B notice (R163). -/
def State.chooseU (s : State) : State :=
  match s.ring.upstream with
  | f :: rest => { s with ring := { s.ring with upstream := rest, uSending := some (.forwarded f) } }
  | [] =>
    match s.offered true with
    | some n => s.sendNotice n
    | none =>
      match s.mgmt.replies with
      | r :: rest =>
          { s with
            mgmt := { s.mgmt with replies := rest, resetReply := false },
            ring := { s.ring with uSending := some (.reply (replyFrame r)) } }
      | [] =>
        match s.offered false with
        | some n => s.sendNotice n
        | none => s

/-- A transmitter that is idle at the end of a step makes its choice then: it stays idle only until something waits for it
(R162, R163; log entry 3). -/
def State.startD (s : State) : State := if s.ring.dSending.isNone then s.chooseD else s
def State.startU (s : State) : State := if s.ring.uSending.isNone then s.chooseU else s

/-- The end of a step: each idle transmitter begins what waits for it. -/
def State.settle (s : State) : State := s.startD.startU

/-! ## Execution of requests (R165, R166) -/

/-- What a request's execution leaves: the state, the reply code and the reply's content. -/
structure Answer where
  state : State
  result : ReplyCode
  content : List Byte

/-- A refusal changes nothing and carries no content (R166, R184). -/
def refuse (s : State) (code : ReplyCode) : Answer := { state := s, result := code, content := [] }

/-- An accepted request. -/
def accept (s : State) (content : List Byte) : Answer := { state := s, result := .ok, content := content }

/-- Execution ends: the request leaves the head of the Request Queue and its REPLY joins the tail of the Reply Queue (R165). -/
def State.answer (s : State) (r : Request) (code : ReplyCode) (content : List Byte) : State :=
  { s with mgmt :=
      { s.mgmt with
        requests := s.mgmt.requests.tail,
        replies := s.mgmt.replies ++ [{ tag := r.tag, code := r.code, result := code, content := content }] } }

/-- The outcome of a command that takes place: the idle transmitters begin what waits (R162, R163). -/
def done (s : State) : Host.Outcome State Fault Refusal := .next s.settle

/-- The outcome of a command that does not take place: nothing changes (log entry 2). -/
def notDue (s : State) : Host.Outcome State Fault Refusal := .next s

/-- Execution of the request at the head of the Request Queue (R165). The command does not take place where no request stands
there, or one that is not its own. A request held to the access rule waits there while an evaluation is in flight, and changes
nothing (R102, R170). -/
def execute (mine : Request → Bool) (waits : Bool) (run : Request → State → Answer) (s : State) :
    Host.Outcome State Fault Refusal :=
  match s.mgmt.requests with
  | [] => notDue s
  | r :: _ =>
      if mine r && !(waits && s.inFlight) then done ((run r s).state.answer r (run r s).result (run r s).content) else notDue s

/-- A request by its code (section 11.3). -/
def hasCode (code : Byte) (r : Request) : Bool := decide (r.code = code)

end Sys2Proof.Machine
end

