-- ==== Sys2Proof/Machine/Axes.lean ====
section
/-! DEFINITION. The Axis Controller's requests: READ_AXIS, WRITE_AXIS and the six axis commands (chapters 4, 6 and 8). -/

namespace Sys2Proof.Machine

/-! ## READ_AXIS (R76, R98, R136, R185) -/

/-- The command history and the causes-seen set that follow the items of group MOTION (R185). -/
def motionRecords (x : Axis) : List Byte :=
  codeByte x.drive.history.length :: x.drive.history.flatMap (fun e => e.1 :: intBytes 6 e.2) ++
    codeByte x.causes.length :: x.causes.map fun c => codeByte c.code

def runReadAxis (r : Request) (s : State) : Answer :=
  let group := beNat (slice r.args 1 1)
  match indexOf Config.axisCount (beNat (slice r.args 0 1)) with
  | none => refuse s .range
  | some a =>
      if r.args.length ≠ 2 ∨ group > 2 then refuse s .range
      else
        let x := s.axis a
        accept s
          ([codeByte a.val, codeByte group, codeByte (groupItems group).length] ++
            (groupItems group).flatMap (fun id => encodeItem id (axisItem x s.site id)) ++
            (if group = 2 then motionRecords x else []))

def execReadAxis (s : State) : Host.Outcome State Fault Refusal := execute (hasCode 7) true runReadAxis s

/-! ## WRITE_AXIS (R60, R99, R100, R140, R183) -/

/-- The items of a WRITE_AXIS: (identifier, value). -/
abbrev Items := List (Nat × Int)

def carried (items : Items) (id : Nat) : Option Int := (items.find? fun e => decide (e.1 = id)).map (·.2)

def carriesTravel (items : Items) : Bool := items.any fun e => isTravelField e.1

/-- Step 1 of R100: every identifier names a travel or a target field, and none is carried twice. -/
def itemsNamed (items : Items) : Bool :=
  items.all (fun e => isTravelField e.1 || isTargetField e.1) && decide (items.map (·.1)).Nodup

/-- A field as it would stand after the write: the carried value, or the held one (R100). -/
def standing (x : Axis) (site : Site) (items : Items) (id : Nat) : Int := (carried items id).getD (axisItem x site id)

/-- The home position's range by kind (R99). -/
def homePositionAccepted (kind : AxisKind) (lo hi wind v : Int) : Bool :=
  match kind with
  | .continuous => within 0 (turn - 1) v
  | .bounded => within lo hi v
  | .wound => within (-(wind * turn)) (wind * turn) v

/-- Every condition of R99 on the travel fields as they would stand, but for the offset and the channel. R99 gives switch_mask no
range in numbers: the model takes the values of its three bits, 0 to 7, and refuses any other (log entry 27). -/
def travelAccepted (kind : AxisKind) (v : Nat → Int) : Bool :=
  within (-halfTurn) (halfTurn - 1) (v 2) && within (-halfTurn) (halfTurn - 1) (v 3) && decide (v 2 < v 3) &&
    within 1 1024 (v 4) && within 1 268435456 (v 5) && within 1 16777216 (v 6) && within 1 16777216 (v 7) &&
    decide (v 9 ≠ 0) && decide (mag (v 9) ≤ v 5) && homePositionAccepted kind (v 2) (v 3) (v 4) (v 10) &&
    within 1 1099511627776 (v 11) && within 0 30 (v 12) && within 0 3 (v 13) && within 1 halfTurn (v 14) &&
    within 1 15 (v 15) && within 0 7 (v 16)

/-- The travel fields as they would stand after the write, or none where a condition of R99 fails. -/
def travelOf (v : Nat → Int) : Option Travel :=
  match axisKindOf (v 1), homeModeOf (v 8) with
  | some kind, some mode =>
      if travelAccepted kind v then
        some
          { kind := kind, softLow := v 2, softHigh := v 3, wind := v 4, vmax := v 5, amax := v 6, stopDecel := v 7,
            homeMode := mode, homeVelocity := v 9, homePosition := v 10, homeSpan := v 11, node := (v 12).toNat,
            channel := (v 13).toNat, feLimit := v 14, missLimit := (v 15).toNat,
            switchMask := switchesOf (BitVec.ofInt 8 (v 16)) }
      else none
  | _, _ => none

/-- The reference offset after the write: the carried one; else, where the kind becomes CONTINUOUS, O mod 2^32; else O (R100). -/
def offsetAfter (x : Axis) (t : Travel) (items : Items) : Int :=
  match carried items 17 with
  | some o => o
  | none => if t.kind = .continuous ∧ x.travel.kind ≠ .continuous then angle x.offset else x.offset

/-- Another axis holds the drive channel (R100 step 4); node 0 names no drive. -/
def channelTaken (s : State) (a : Fin Config.axisCount) (t : Travel) : Bool :=
  decide (t.node ≠ 0) && allAxes.any fun b =>
    decide (b ≠ a) && decide ((s.axis b).travel.node = t.node) && decide ((s.axis b).travel.channel = t.channel)

/-- Step 4 of R100 for a list that carries a travel field. -/
def newTravel (s : State) (a : Fin Config.axisCount) (items : Items) : Option Travel :=
  match travelOf (standing (s.axis a) s.site items) with
  | none => none
  | some t =>
      if channelTaken s a t || ((carried items 17).isSome && decide (t.homeMode = .search)) ||
          !positionInRange t.kind (offsetAfter (s.axis a) t items) then none
      else some t

/-- The range of one carried target field, but for the source (R60, R140). -/
def targetItemAccepted (kind : AxisKind) (id : Nat) (v : Int) : Bool :=
  match id with
  | 34 | 38 => within (-halfTurn) (halfTurn - 1) v
  | 35 =>
      match kind with
      | .bounded => within (-halfTurn) (halfTurn - 1) v
      | .continuous | .wound => within 0 (turn - 1) v
  | 36 => within 0 (turn - 1) v
  | 37 => within (-16) 16 v
  | 39 | 41 | 44 => within 0 1 v
  | 40 | 43 => positionInRange kind v
  | 42 | 45 => decide (v = absentValue) || positionInRange kind v
  | _ => true

/-- The source that would stand after the write: none where neither of its fields is carried; refused where the pair fails R60. -/
def newSource (x : Axis) (a : Fin Config.axisCount) (site : Site) (items : Items) : Option (Option (SourceKind × Nat)) :=
  if (carried items 32).isNone && (carried items 33).isNone then some none
  else
    match sourceKindOf (standing x site items 32) with
    | none => none
    | some k =>
        if sourceAccepted a.val k (standing x site items 33) then some (some (k, sourceIndex k (standing x site items 33)))
        else none

/-- A Next field's value: -2^63 stands for absent (R183). -/
def nextOf (v : Int) : Option Int := if v = absentValue then none else some v

/-- One carried target field written (R59, R140); the source is written by the pair. -/
def applyItem (t : Target) (e : Nat × Int) : Target :=
  match e.1 with
  | 34 => { t with scale := e.2 }
  | 35 => { t with offset := BitVec.ofInt 32 e.2 }
  | 36 => { t with phase := e.2 }
  | 37 => { t with turns := e.2 }
  | 38 => { t with fraction := e.2 }
  | 39 => { t with siteFlag := decide (e.2 = 1) }
  | 40 => { t with watchA := { t.watchA with value := e.2 } }
  | 41 => { t with watchA := { t.watchA with enabled := decide (e.2 = 1) } }
  | 42 => { t with watchA := { t.watchA with next := nextOf e.2 } }
  | 43 => { t with watchB := { t.watchB with value := e.2 } }
  | 44 => { t with watchB := { t.watchB with enabled := decide (e.2 = 1) } }
  | 45 => { t with watchB := { t.watchB with next := nextOf e.2 } }
  | _ => t

def Target.withSource (t : Target) : Option (SourceKind × Nat) → Target
  | some p => { t with source := p.1, index := p.2 }
  | none => t

/-- A changed drive node or channel makes the actual position and the live image unknown and clears the drive-fault bit
(R100, R127). -/
def Drive.rechannel (d : Drive) (before after : Travel) : Drive :=
  if before.node ≠ after.node ∨ before.channel ≠ after.channel then { d with actual := none, live := none, faultBit := false }
  else d

/-- The axis after an accepted WRITE_AXIS, step 5 of R100. -/
def writtenAxis (x : Axis) (t : Travel) (items : Items) (source : Option (SourceKind × Nat)) : Axis :=
  { x with
    travel := t, offset := offsetAfter x t items,
    target := (items.foldl applyItem x.target).withSource source,
    suppress := x.suppress || items.any fun e => suppressesFeedforward e.1,
    drive := x.drive.rechannel x.travel t }

/-- The five steps of R100. A list of target fields alone skips the travel tests: the held travel fields pass them. -/
def writeAxisItems (s : State) (a : Fin Config.axisCount) (items : Items) : Answer :=
  let x := s.axis a
  if !itemsNamed items then refuse s .range
  else if carriesTravel items && decide (s.mgmt.mode = .showing) then refuse s .mode
  else if carriesTravel items && decide (x.state ≠ .off) then refuse s .state
  else
    match (if carriesTravel items then newTravel s a items else some x.travel), newSource x a s.site items with
    | some t, some source =>
        if items.all fun e => targetItemAccepted t.kind e.1 e.2 then accept (s.setAxis a (writtenAxis x t items source)) []
        else refuse s .range
    | _, _ => refuse s .range

def runWriteAxis (r : Request) (s : State) : Answer :=
  let count := beNat (slice r.args 1 1)
  match indexOf Config.axisCount (beNat (slice r.args 0 1)) with
  | none => refuse s .range
  | some a =>
      if r.args.length ≠ 2 + itemBytes * count then refuse s .range
      else writeAxisItems s a ((chunks itemBytes count (r.args.drop 2)).map decodeItem)

def execWriteAxis (s : State) : Host.Outcome State Fault Refusal := execute (hasCode 8) true runWriteAxis s

/-! ## Axis commands (R104 to R110) -/

/-- An accepted command: its reply carries the axis's state, phase and HOMED flag after it (R184). -/
def acceptCommand (s : State) (a : Fin Config.axisCount) (x : Axis) : Answer :=
  accept (s.setAxis a x) [codeByte x.state.code, codeByte x.state.phaseCode, flagByte x.homed]

/-- The position that ENABLE sets from the drive's actual position (R105). -/
def enabledPosition (kind : AxisKind) (actual o : Int) : Int :=
  match kind with
  | .continuous => angle (actual - o)
  | .bounded | .wound => reduceExt (actual - o)

/-- ENABLE (R105). -/
def enableAxis (s : State) (a : Fin Config.axisCount) : Answer :=
  let x := s.axis a
  if x.state ≠ .off then refuse s .state
  else if x.travel.node = 0 then refuse s .range
  else
    match x.drive.actual with
    | none => refuse s .state
    | some actual =>
        let p := enabledPosition x.travel.kind actual x.offset
        match x.travel.homeMode with
        | .search => acceptCommand s a { x with position := p, velocity := 0, state := .unhomed, homed := false }
        | .absolute =>
            if x.travel.kind = .bounded ∧ !within x.travel.softLow x.travel.softHigh p then refuse s .range
            else acceptCommand s a { x with position := p, velocity := 0, state := .holding, homed := true }

/-- The Drive Supervisor's record as the axis enters OFF by DISABLE (R125). -/
def Drive.disabled (d : Drive) : Drive := { d with history := [], answerPending := false, missCount := 0, followError := none }

/-- DISABLE (R106). -/
def disableAxis (s : State) (a : Fin Config.axisCount) : Answer :=
  let x := s.axis a
  if (x.state = .unhomed ∨ x.state = .holding ∨ x.state = .faulted) ∧ x.velocity = 0 then
    acceptCommand s a { x with state := .off, homed := false, causes := [], drive := x.drive.disabled }
  else refuse s .state

/-- HOME (R107, R111). -/
def homeAxis (s : State) (a : Fin Config.axisCount) : Answer :=
  let x := s.axis a
  if s.mgmt.mode = .showing then refuse s .mode
  else if x.travel.homeMode = .absolute then refuse s .state
  else if x.state = .unhomed ∨ x.state = .holding then
    acceptCommand s a { x with homed := false, state := .homing .seek, seekStart := x.position, seekTravel := 0 }
  else refuse s .state

/-- TRACK (R108). -/
def trackAxis (s : State) (a : Fin Config.axisCount) : Answer :=
  let x := s.axis a
  match x.state with
  | .tracking => acceptCommand s a x
  | .holding =>
      if x.travel.inLimits x.position then acceptCommand s a { x with state := .tracking, suppress := true } else refuse s .range
  | .off | .unhomed | .homing _ | .halting | .faulted => refuse s .state

/-- STOP (R109). -/
def stopAxis (s : State) (a : Fin Config.axisCount) : Answer :=
  let x := s.axis a
  match x.state with
  | .tracking => acceptCommand s a { x with state := .holding }
  | .homing .seek => acceptCommand s a { x with state := .homing .abandon }
  | .off | .unhomed | .homing .settle | .homing .abandon | .holding | .halting | .faulted => acceptCommand s a x

/-- CLEAR_FAULT (R110). -/
def clearFaultAxis (s : State) (a : Fin Config.axisCount) : Answer :=
  let x := s.axis a
  if x.state ≠ .faulted then refuse s .state
  else if x.drive.faultBit then refuse s .state
  else acceptCommand s a { x with causes := [], state := if x.homed then .holding else .unhomed }

/-- An AXIS_COMMAND's arguments: two bytes, an axis up to 23 (R104, R184). -/
def onAxis (run : State → Fin Config.axisCount → Answer) (r : Request) (s : State) : Answer :=
  match r.args with
  | [axis, _] =>
    match indexOf Config.axisCount axis.toNat with
    | some a => run s a
    | none => refuse s .range
  | _ => refuse s .range

/-- The rule of a command code (R104, section 11.3); none for a code that names none of the six. -/
def commandRule (code : Byte) : Option (State → Fin Config.axisCount → Answer) :=
  match code.toNat with
  | 0 => some enableAxis
  | 1 => some disableAxis
  | 2 => some homeAxis
  | 3 => some trackAxis
  | 4 => some stopAxis
  | 5 => some clearFaultAxis
  | _ => none

/-- R104 whole: RANGE for an axis above 23 or a code that names no command, else the rule of the command. -/
def runAxisCommand (r : Request) (s : State) : Answer :=
  match r.args with
  | [_, code] =>
    match commandRule code with
    | some run => onAxis run r s
    | none => refuse s .range
  | _ => refuse s .range

/-- An AXIS_COMMAND whose command byte is this one. -/
def isCommand (code : Byte) (r : Request) : Bool := hasCode 9 r && decide (r.args.getD 1 255 = code)

def execEnable (s : State) : Host.Outcome State Fault Refusal := execute (isCommand 0) true (onAxis enableAxis) s
def execDisable (s : State) : Host.Outcome State Fault Refusal := execute (isCommand 1) true (onAxis disableAxis) s
def execHome (s : State) : Host.Outcome State Fault Refusal := execute (isCommand 2) true (onAxis homeAxis) s
def execTrack (s : State) : Host.Outcome State Fault Refusal := execute (isCommand 3) true (onAxis trackAxis) s
def execStop (s : State) : Host.Outcome State Fault Refusal := execute (isCommand 4) true (onAxis stopAxis) s
def execClearFault (s : State) : Host.Outcome State Fault Refusal := execute (isCommand 5) true (onAxis clearFaultAxis) s
def execAxisCommand (s : State) : Host.Outcome State Fault Refusal := execute (hasCode 9) true runAxisCommand s

end Sys2Proof.Machine
end

