-- ==== Sys2Proof/Machine/Ephemeris.lean ====
section
/-! DEFINITION. The Ephemeris Store: loading, reading, validation, sealing and swaps (chapter 2). -/

namespace Sys2Proof.Machine

/-- The banks that a request may not write: the active bank, and the shadow while it is sealed (R25, R26, R32). -/
def Store.refusesWrite (t : Store) (bank : Fin 2) : Bool := decide (bank = t.active) || t.sealed bank

/-- LOAD_SEGMENTS (R25): RANGE for a bank, count, slot or start day out of range or a payload of another length, then BANK. -/
def runLoadSegments (r : Request) (s : State) : Answer :=
  let first := beNat (slice r.args 1 2)
  let count := beNat (slice r.args 3 1)
  let segments := (chunks segmentBytes count (r.args.drop 4)).map decodeSegment
  match indexOf 2 (beNat (slice r.args 0 1)) with
  | none => refuse s .range
  | some bank =>
      if r.args.length ≠ 4 + segmentBytes * count ∨ count = 0 ∨ count > Config.segmentBatch ∨ first ≥ Config.slotCount ∨
          first + count > Config.slotCount ∨ !(segments.all fun g => within (-dayLimit) dayLimit g.start) then refuse s .range
      else if s.store.refusesWrite bank then refuse s .bank
      else
        accept (s.setBank bank
          { s.bank bank with slots := Slots.writeAll Segment.zero (s.bank bank).slots first segments }) []

/-- The ranges of R26, and the enable byte (R184). -/
def descriptorAccepted (bs : List Byte) : Bool :=
  let d := decodeDescriptor bs
  decide (beNat (slice bs 0 1) < 2) && decide (d.base < Config.slotCount) && decide (d.length ≤ Config.slotCount) &&
    within (-16) 16 d.turns && within (-quarterTurn) quarterTurn d.latitude && within 0 (halfTurn - 1) d.tolerance

/-- WRITE_BODY (R26). -/
def runWriteBody (r : Request) (s : State) : Answer :=
  match indexOf 2 (beNat (slice r.args 0 1)), indexOf Config.bodyCount (beNat (slice r.args 1 1)) with
  | some bank, some body =>
      if r.args.length ≠ 2 + descriptorBytes ∨ !descriptorAccepted (r.args.drop 2) then refuse s .range
      else if s.store.refusesWrite bank then refuse s .bank
      else
        accept (s.setBank bank
          { s.bank bank with
            descriptors := (s.bank bank).descriptors.set body.val (decodeDescriptor (r.args.drop 2)) body.isLt }) []
  | _, _ => refuse s .range

/-- READ_SEGMENTS (R27, R185). -/
def runReadSegments (r : Request) (s : State) : Answer :=
  let first := beNat (slice r.args 1 2)
  let count := beNat (slice r.args 3 1)
  match indexOf 2 (beNat (slice r.args 0 1)) with
  | none => refuse s .range
  | some bank =>
      if r.args.length ≠ 4 ∨ count = 0 ∨ count > Config.segmentBatch ∨ first ≥ Config.slotCount ∨
          first + count > Config.slotCount then refuse s .range
      else
        accept s
          (codeByte bank.val :: (natBytes 2 first ++
            [codeByte count, codeByte s.store.active.val, flagByte (s.store.sealed bank)] ++
            (List.range' first count).flatMap fun i => encodeSegment ((s.bank bank).segment i)))

/-- READ_BODY (R28, R185). -/
def runReadBody (r : Request) (s : State) : Answer :=
  match indexOf 2 (beNat (slice r.args 0 1)), indexOf Config.bodyCount (beNat (slice r.args 1 1)) with
  | some bank, some body =>
      if r.args.length ≠ 2 then refuse s .range
      else
        let x := s.body body
        accept s
          ([codeByte bank.val, codeByte body.val, codeByte s.store.active.val, flagByte (s.store.sealed bank)] ++
            encodeDescriptor ((s.bank bank).descriptor body) ++ natBytes 2 (x.segment.getD 65535) ++
            [codeByte x.coverage.code] ++ intBytes 4 x.longitude ++ intBytes 4 x.latitude ++ [flagByte x.clamped])
  | _, _ => refuse s .range

/-! ## Validation (R31) -/

/-- The checks of R31 in their order of testing; the code of a check is its place here (R182). -/
inductive StoreCheck where
  | window | span | finish | order
  deriving DecidableEq, Repr

def StoreCheck.code : StoreCheck → Nat
  | .window => 0 | .span => 1 | .finish => 2 | .order => 3

/-- The first check that window position i of a descriptor fails: SPAN, then END, then ORDER (R31). -/
def segmentFailure (b : Bank) (base i : Nat) : Option StoreCheck :=
  let g := b.segment (base + i)
  if g.span = 0 then some .span
  else if g.start + g.span > dayLimit + 1 then some .finish
  else if 0 < i ∧ (b.segment (base + i - 1)).start + (b.segment (base + i - 1)).span > g.start then some .order
  else none

/-- The first failure of an enabled descriptor, with its window position, which is 0 for WINDOW (R31). -/
def descriptorFailure (b : Bank) (d : Descriptor) : Option (StoreCheck × Nat) :=
  if !d.enabled then none
  else if d.base + d.length > Config.slotCount then some (.window, 0)
  else (List.range d.length).findSome? fun i => (segmentFailure b d.base i).map fun c => (c, i)

/-- The first failure of a bank, its descriptors taken in ascending body number (R31). -/
def bankFailure (b : Bank) : Option (Fin Config.bodyCount × StoreCheck × Nat) :=
  (List.finRange Config.bodyCount).findSome? fun k => (descriptorFailure b (b.descriptor k)).map fun f => (k, f)

/-- A shadow bank that passes validation is sealed with the swap scheduled; one that fails is refused with BANK, naming its
first failure (R30 step 3, R31, R184). -/
def scheduleSwap (s : State) (swap : SwapState) : Answer :=
  if s.store.swap ≠ .idle then refuse s .state
  else
    match bankFailure (s.bank s.store.shadow) with
    | some (body, check, i) => { state := s, result := .bank, content := codeByte body.val :: codeByte check.code :: natBytes 2 i }
    | none => accept { s with store := { s.store with swap := swap } } []

/-- SWAP_BANKS (R30): the immediate form, and the epoch form with its day. -/
def runSwapBanks (r : Request) (s : State) : Answer :=
  let day := beInt (slice r.args 1 4)
  match r.args with
  | [0] => scheduleSwap s .pendingNext
  | [1, _, _, _, _] =>
      if within (-dayLimit) dayLimit day then scheduleSwap s (.pendingEpoch day (swapSide day s.clock.epoch)) else refuse s .range
  | _ => refuse s .range

/-- CANCEL_SWAP (R36). -/
def runCancelSwap (r : Request) (s : State) : Answer :=
  if r.args ≠ [] then refuse s .range
  else if s.store.swap = .idle then refuse s .state
  else accept { s with store := { s.store with swap := .idle } } []

/-- A swap applied at the issue of an evaluation: the banks exchange roles, the seal goes and BANK_SWAP is raised (R35). -/
def State.applySwap (s : State) (evaluation : BitVec 32) : State :=
  State.raise { s with store := { s.store with active := s.store.shadow, swap := .idle } } .bankSwap 0
    (.bankSwap s.store.shadow evaluation)

/-! ## The commands -/

def execLoadSegments (s : State) : Host.Outcome State Fault Refusal := execute (hasCode 12) false runLoadSegments s
def execWriteBody (s : State) : Host.Outcome State Fault Refusal := execute (hasCode 11) false runWriteBody s
def execReadSegments (s : State) : Host.Outcome State Fault Refusal := execute (hasCode 13) false runReadSegments s
def execReadBody (s : State) : Host.Outcome State Fault Refusal := execute (hasCode 10) false runReadBody s
def execSwapBanks (s : State) : Host.Outcome State Fault Refusal := execute (hasCode 14) false runSwapBanks s
def execCancelSwap (s : State) : Host.Outcome State Fault Refusal := execute (hasCode 15) false runCancelSwap s

end Sys2Proof.Machine
end

