-- ==== Sys2Proof/Machine/Clock.lean ====
section
/-! DEFINITION. The Sky Clock: syncs, the issue of evaluations, cadence, and its requests (chapter 1). -/

namespace Sys2Proof.Machine

/-! ## Taking a sync (R3 to R7) -/

/-- A pending epoch set applied (R4). -/
def applyEpochSet (s : State) (e : Int) : State :=
  { s with clock := { s.clock with epoch := e, pattern := 1, pendingSet := none, setSinceIssue := true } }

/-- The rate step, the advance and the limits (R5, R6, R7). -/
def advanceEpoch (s : State) : State :=
  let c := s.clock
  let q := rateStep c.rate c.target c.slew
  let e := c.epoch + epochAdvance c.pattern q
  let stepped := { c with rate := q, epoch := e, pattern := nextPattern c.pattern }
  if e > epochMax then
    State.raise { s with clock := { stepped with epoch := epochMax, rate := 0, target := 0 } } .epochLimit 0 (.epochLimit true)
  else if e < epochMin then
    State.raise { s with clock := { stepped with epoch := epochMin, rate := 0, target := 0 } } .epochLimit 0 (.epochLimit false)
  else { s with clock := stepped }

/-- What a sync does to sky time (R3). -/
def applySync (s : State) : State :=
  match s.clock.pendingSet with
  | some e => applyEpochSet s e
  | none => advanceEpoch s

/-- An evaluation is issued: it is numbered and carries E, Eprev, the epoch-set mark and the triggers of its issue, BANK_SWAP
before EPOCH_WATCH; a swap that falls due is applied (R10, R13, R33 to R35, R150). -/
def issueEvaluation (s : State) : State :=
  let c := s.clock
  let number := c.evalCount + 1
  let swapped := swapDue s.store.swap c.epoch
  let crossed := c.watchEnabled && !c.setSinceIssue && epochWatchCrossed (c.watchDay * turn) c.prevEpoch c.epoch
  let s1 := if swapped then s.applySwap number else s
  { s1 with
    clock := { c with evalCount := number, setSinceIssue := false, prevEpoch := c.epoch },
    eval := some
      { number := number, epoch := c.epoch, prevEpoch := c.prevEpoch, epochSet := c.setSinceIssue, swapped := swapped,
        stage := .bodies 0, suppressed := [],
        triggers :=
          (if swapped then [{ kind := .bankSwap, index := 0 }] else []) ++
          (if crossed then [{ kind := .epochWatch, index := 0 }] else []),
        records := [] } }

/-- A sync taken whole: applied, then an evaluation is issued, or an overrun recorded where one is in flight (R3, R10, R12). -/
def takeSync (s : State) : State :=
  let s1 := applySync s
  match s1.eval with
  | some e => s1.raise .overrun 0 (.overrun e.number)
  | none => issueEvaluation s1

/-! ## Cadence (R15 to R17) -/

/-- The cadence step of an external SYNC: the timer starts afresh with the timeout then standing; in LOCAL the generator stops
and CADENCE is raised with "restored" (R15, R17). -/
def cadenceStep (s : State) : State :=
  let s1 := { s with clock :=
    { s.clock with cadence := .watching, cadenceTimer := some s.clock.cadenceTimeout, localGenerator := none } }
  match s.clock.cadence with
  | .localPaced => s1.raise .cadence 0 (.cadence true)
  | .unarmed | .watching => s1

/-- An external SYNC: the cadence step, then the sync (R3, R15, R17). -/
def externalSync (s : State) : State := takeSync (cadenceStep s)

/-- Cadence loss (R16): LOCAL, the generator started with the local period, qt 0, CADENCE raised with "lost". -/
def loseCadence (s : State) : State :=
  State.raise
    { s with clock :=
      { s.clock with cadence := .localPaced, cadenceTimer := none, localGenerator := some s.clock.localPeriod, target := 0 } }
    .cadence 0 (.cadence false)

/-- CADENCE_LOSS: the timer expires, which it can in WATCHING alone (R16). -/
def execCadenceLoss (s : State) : Host.Outcome State Fault Refusal :=
  match s.clock.cadence with
  | .watching => done (loseCadence s)
  | .unarmed | .localPaced => notDue s

/-- LOCAL_SYNC: the generator produces a sync, which it does in LOCAL alone, and the next falls due one local period later
(R16, R18). -/
def execLocalSync (s : State) : Host.Outcome State Fault Refusal :=
  match s.clock.cadence with
  | .localPaced => done (takeSync { s with clock := { s.clock with localGenerator := some s.clock.localPeriod } })
  | .unarmed | .watching => notDue s

/-! ## Requests (R8, R9, R14, R18) -/

/-- SET_EPOCH (R8). -/
def runSetEpoch (r : Request) (s : State) : Answer :=
  let e := beInt r.args
  if r.args.length = 8 ∧ within epochMin epochMax e then accept { s with clock := { s.clock with pendingSet := some e } } []
  else refuse s .range

/-- The target rate and the slew written (R9); also the cue action CLOCK_RATE. -/
def State.writeRate (s : State) (qt slew : Int) : State := { s with clock := { s.clock with target := qt, slew := slew } }

/-- SET_RATE (R9). -/
def runSetRate (r : Request) (s : State) : Answer :=
  let qt := beInt (slice r.args 0 6)
  let slew : Int := beNat (slice r.args 6 6)
  if r.args.length = 12 ∧ rateAccepted qt slew then accept (s.writeRate qt slew) [] else refuse s .range

/-- The epoch watch written (R14); also the cue action EPOCH_WATCH_SET. -/
def State.writeEpochWatch (s : State) (day : Int) (enable : Bool) : State :=
  { s with clock := { s.clock with watchDay := day, watchEnabled := enable } }

/-- SET_EPOCH_WATCH (R14, R184). -/
def runSetEpochWatch (r : Request) (s : State) : Answer :=
  let day := beInt (slice r.args 0 4)
  let enable := beNat (slice r.args 4 1)
  if r.args.length = 5 ∧ enable < 2 ∧ within (-dayLimit) dayLimit day then
    accept (s.writeEpochWatch day (decide (enable = 1))) []
  else refuse s .range

/-- A timeout or a period in range (R18). -/
def periodAccepted (n : Nat) : Bool := decide (200 ≤ n) && decide (n ≤ 65535)

/-- SET_CADENCE (R18): what already runs keeps the interval it was started with. -/
def runSetCadence (r : Request) (s : State) : Answer :=
  let timeout := beNat (slice r.args 0 2)
  let period := beNat (slice r.args 2 2)
  if r.args.length = 4 ∧ periodAccepted timeout ∧ periodAccepted period then
    accept { s with clock := { s.clock with cadenceTimeout := timeout, localPeriod := period } } []
  else refuse s .range

def execSetEpoch (s : State) : Host.Outcome State Fault Refusal := execute (hasCode 2) false runSetEpoch s
def execSetRate (s : State) : Host.Outcome State Fault Refusal := execute (hasCode 3) false runSetRate s
def execSetEpochWatch (s : State) : Host.Outcome State Fault Refusal := execute (hasCode 4) false runSetEpochWatch s
def execSetCadence (s : State) : Host.Outcome State Fault Refusal := execute (hasCode 5) false runSetCadence s

end Sys2Proof.Machine
end

