-- ==== Sys2Proof/Machine/Cues.lean ====
section
/-! DEFINITION. The Cue Engine: servicing of occurrences, firings, cue actions, and the requests on channels and the Cue List
(chapter 8). -/

namespace Sys2Proof.Machine

/-! ## Channels (R145 to R148, R153) -/

/-- A channel armed: the cursor at the list start and, in COUNTED mode, the count reloaded (R147). -/
def Channel.arm (c : Channel) : Channel :=
  { c with
    armed := true, cursor := c.listStart,
    remaining := match c.mode with
      | .counted => c.count
      | .continuous => c.remaining }

/-- A channel made IDLE; cursor and remaining count stay (R148). -/
def Channel.disarm (c : Channel) : Channel := { c with armed := false }

/-- The step of a firing: the cursor moves on where advance is set, from the list end to the list start; in COUNTED mode the
remaining count falls by 1, and a channel whose count reaches 0 becomes IDLE (R153, R154). -/
def Channel.step (c : Channel) : Channel :=
  let moved := if c.advance then { c with cursor := if c.cursor = c.listEnd then c.listStart else c.cursor + 1 } else c
  match c.mode with
  | .continuous => moved
  | .counted => { moved with remaining := c.remaining - 1, armed := c.armed && decide (c.remaining - 1 ≠ 0) }

/-- The step exhausts the channel (R154). -/
def Channel.exhausts (c : Channel) : Bool := decide (c.mode = .counted) && decide (c.remaining - 1 = 0)

/-! ## Cue actions (R155, R156) -/

/-- Target fields written by a cue action, with the axis's suppression flag set (R61). -/
def writeTarget (s : State) (a : Fin Config.axisCount) (t : Target) : State :=
  s.setAxis a { s.axis a with target := t, suppress := true }

/-- WATCH_LOAD's write: live writes the value and enables the watch, buffer loads Next (R143). -/
def Watch.load (w : Watch) (buffer : Bool) (v : Int) : Watch :=
  if buffer then { w with next := some v } else { w with value := v, enabled := true }

/-- An action executed by a firing of a channel: the state it leaves, or none where it is refused (R155, R156). -/
def runAction (s : State) (firing : Fin Config.channelCount) (action : CueAction) : Option State :=
  match action with
  | .none => some s
  | .axisSource a k index =>
      if sourceAccepted a.val k index then
        some (writeTarget s a { (s.axis a).target with source := k, index := sourceIndex k index })
      else none
  | .axisOffset a v => some (writeTarget s a { (s.axis a).target with offset := v })
  | .axisScale a v => some (writeTarget s a { (s.axis a).target with scale := v })
  | .axisState a stop =>
      let answer := if stop then stopAxis s a else trackAxis s a
      if answer.result = .ok then some answer.state else none
  | .clockRate qt slew => if rateAccepted qt slew then some (s.writeRate qt slew) else none
  | .watchLoad a watchB buffer v =>
      let x := s.axis a
      if positionInRange x.travel.kind v then
        some (s.setAxis a { x with target :=
          if watchB then { x.target with watchB := x.target.watchB.load buffer v }
          else { x.target with watchA := x.target.watchA.load buffer v } })
      else none
  | .epochWatchSet day enable => if within (-dayLimit) dayLimit day then some (s.writeEpochWatch day enable) else none
  | .channelArm c => if (s.channel c).defined then some (s.setChannel c (s.channel c).arm) else none
  | .channelDisarm c => some (s.setChannel c (s.channel c).disarm)
  | .note code => some (s.raise .cue firing.val (.cueNote code))

/-- The action arms or disarms the firing channel itself, so that the firing makes no step (R153). -/
def CueAction.namesItself (action : CueAction) (firing : Fin Config.channelCount) : Bool :=
  match action with
  | .channelArm c | .channelDisarm c => decide (c = firing)
  | .none | .axisSource _ _ _ | .axisOffset _ _ | .axisScale _ _ | .axisState _ _ | .clockRate _ _ | .watchLoad _ _ _ _
  | .epochWatchSet _ _ | .note _ => false

/-- The step of the firing channel, with "exhausted" raised where it exhausts (R153, R154). -/
def stepChannel (s : State) (c : Fin Config.channelCount) : State :=
  let ch := s.channel c
  let s1 := s.setChannel c ch.step
  if ch.exhausts then s1.raise .cue c.val .cueExhausted else s1

/-- A firing: the entry at the cursor is executed, a refused action raises CUE, and the channel steps (R153, R156). -/
def fire (s : State) (c : Fin Config.channelCount) : State :=
  let entry := (s.channel c).cursor
  let action := s.cueEntry entry
  let s1 :=
    match runAction s c action with
    | some t => t
    | none => s.raise .cue c.val (.cueRefused entry action.code)
  if action.namesItself c then s1 else stepChannel s1 c

/-- A channel that is armed and matches the occurrence (R145, R152). -/
def matching (s : State) (t : Trigger) (c : Fin Config.channelCount) : Bool :=
  (s.channel c).armed && decide ((s.channel c).trigger = t)

/-- One occurrence serviced whole: the channels armed and matching at its start fire in ascending number, each that is still
armed when its turn comes (R152). -/
def service (s : State) (t : Trigger) : State :=
  ((List.finRange Config.channelCount).filter (matching s t)).foldl
    (fun u c => if (u.channel c).armed then fire u c else u) s

/-- An occurrence of a FEEDBACK record reaches the Cue Engine: serviced at once where no evaluation is in flight and the held
set is empty, else held, or absorbed by its pair already there (R151). -/
def handOccurrence (s : State) (t : Trigger) : State :=
  if s.inFlight || !s.cues.held.isEmpty then
    if t ∈ s.cues.held then s else { s with cues := { s.cues with held := s.cues.held ++ [t] } }
  else service s t

/-- An evaluation whose SETPOINT frame has been handed over and whose triggers are all serviced is complete: the in-flight flag
is cleared (R11). -/
def State.completeIfServiced (s : State) : State :=
  match s.eval with
  | some ev => if ev.stage = .servicing ∧ ev.triggers = [] then { s with eval := none } else s
  | none => s

/-- OCCURRENCE_SERVICE: the next trigger of the evaluation being completed, or, with no evaluation in flight, the oldest held
occurrence (R150, R151, R152). -/
def execOccurrenceService (s : State) : Host.Outcome State Fault Refusal :=
  match s.eval with
  | some ev =>
    match ev.stage, ev.triggers with
    | .servicing, t :: rest => done (service { s with eval := some { ev with triggers := rest } } t).completeIfServiced
    | .servicing, [] => done s.completeIfServiced
    | .bodies _, _ | .mapping _, _ | .shaping _, _ => notDue s
  | none =>
    match s.cues.held with
    | t :: rest => done (service { s with cues := { s.cues with held := rest } } t)
    | [] => notDue s

/-! ## Requests (R146 to R149) -/

/-- A channel's record as the replies carry it (R185). -/
def channelRecord (c : Fin Config.channelCount) (x : Channel) : List Byte :=
  [codeByte c.val, flagByte x.armed, flagByte x.defined, codeByte x.trigger.kind.code, codeByte x.trigger.index,
    codeByte x.mode.code, codeByte x.count, codeByte x.remaining, codeByte x.listStart, codeByte x.listEnd, codeByte x.cursor,
    flagByte x.advance]

/-- A channel request's answer carries the channel's record as it stands after it, accepted or refused (R148). -/
def channelAnswer (s : State) (c : Fin Config.channelCount) (code : ReplyCode) : Answer :=
  { state := s, result := code, content := channelRecord c (s.channel c) }

/-- The channel that a channel request names in its first byte; a refusal on the number carries no record (R148). -/
def onChannel (run : Request → State → Fin Config.channelCount → Answer) (r : Request) (s : State) : Answer :=
  match r.args with
  | [] => refuse s .range
  | b :: _ =>
    match indexOf Config.channelCount b.toNat with
    | none => refuse s .range
    | some c => run r s c

/-- The definition that WRITE_CHANNEL carries, or none where it is refused with RANGE (R146, R184). -/
def decodeChannel (args : List Byte) : Option Channel :=
  match args.map BitVec.toNat with
  | [_, kind, index, mode, count, first, last, advance] =>
    match triggerKindOf kind with
    | none => none
    | some k =>
        if index < k.indexes ∧ mode < 2 ∧ (mode = 1 ∨ 1 ≤ count) ∧ first ≤ last ∧ advance < 2 then
          some
            { armed := false, defined := true, trigger := { kind := k, index := index },
              mode := if mode = 0 then .counted else .continuous, count := if mode = 0 then count else 0, remaining := 0,
              listStart := first, listEnd := last, cursor := first, advance := decide (advance = 1) }
        else none
  | _ => none

/-- WRITE_CHANNEL (R146). -/
def writeChannel (r : Request) (s : State) (c : Fin Config.channelCount) : Answer :=
  match decodeChannel r.args with
  | none => channelAnswer s c .range
  | some x => if (s.channel c).armed then channelAnswer s c .state else channelAnswer (s.setChannel c x) c .ok

/-- ARM_CHANNEL (R147). -/
def armChannel (r : Request) (s : State) (c : Fin Config.channelCount) : Answer :=
  if r.args.length ≠ 1 then channelAnswer s c .range
  else if (s.channel c).defined then channelAnswer (s.setChannel c (s.channel c).arm) c .ok
  else channelAnswer s c .state

/-- DISARM_CHANNEL (R148). -/
def disarmChannel (r : Request) (s : State) (c : Fin Config.channelCount) : Answer :=
  if r.args.length ≠ 1 then channelAnswer s c .range else channelAnswer (s.setChannel c (s.channel c).disarm) c .ok

/-- The entries of a WRITE_CUES, or none where one of them is refused (R149). -/
def decodeCues : List (List Byte) → Option (List CueAction)
  | [] => some []
  | bs :: rest =>
    match decodeCue bs, decodeCues rest with
    | some a, some as => some (a :: as)
    | _, _ => none

/-- WRITE_CUES (R149). -/
def runWriteCues (r : Request) (s : State) : Answer :=
  let first := beNat (slice r.args 0 1)
  let count := beNat (slice r.args 1 1)
  if r.args.length ≠ 2 + cueBytes * count ∨ count = 0 ∨ count > Config.cueBatch ∨ first + count > Config.cueCount then
    refuse s .range
  else
    match decodeCues (chunks cueBytes count (r.args.drop 2)) with
    | none => refuse s .range
    | some entries => accept { s with cues := { s.cues with list := Slots.writeAll CueAction.none s.cues.list first entries } } []

def execWriteCues (s : State) : Host.Outcome State Fault Refusal := execute (hasCode 16) false runWriteCues s
def execWriteChannel (s : State) : Host.Outcome State Fault Refusal := execute (hasCode 17) false (onChannel writeChannel) s
def execArmChannel (s : State) : Host.Outcome State Fault Refusal := execute (hasCode 18) false (onChannel armChannel) s
def execDisarmChannel (s : State) : Host.Outcome State Fault Refusal := execute (hasCode 19) false (onChannel disarmChannel) s

end Sys2Proof.Machine
end

