-- ==== Sys2Proof/Machine/Bodies.lean ====
section
/-! DEFINITION. Body evaluation: lookup, longitude and latitude, fallback, change tests (chapter 3). -/

namespace Sys2Proof.Machine

/-- The covering segment's window position on a day (R40): it depends on the day and the bank alone (R41). -/
def coveringPosition (b : Bank) (d : Descriptor) (day : Int) : Option Nat :=
  (List.range d.length).find? fun i => (b.segment (d.base + i)).covers day

/-- The normalised time U of an epoch within a covering segment (R43). -/
def normalisedTime (g : Segment) (e : Int) : Int := ((dayOf e - g.start) * turn + fractionOf e) / g.span

/-- One step of Horner's scheme, the floor toward minus infinity (R44, R45). -/
def hornerStep (c a u : Int) : Int := c + a * u / turn

/-- The longitude of a covered body at U (R44). -/
def cubicLongitude (g : Segment) (u : Int) : Int := angle (hornerStep g.c0 (hornerStep g.c1 (hornerStep g.c2 g.c3 u) u) u)

/-- The latitude of a covered body at U, before saturation (R45). -/
def quadraticLatitude (g : Segment) (u : Int) : Int := hornerStep g.b0 (hornerStep g.b1 g.b2 u) u

/-- The record of an enabled body covered at position i, or uncovered (R44 to R47, R49). -/
def evaluateBody (b : Bank) (d : Descriptor) (e : Int) (found : Option Nat) : Body :=
  match found with
  | some i =>
      let g := b.segment (d.base + i)
      let u := normalisedTime g e
      let a := quadraticLatitude g u
      { segment := some i, coverage := .covered, longitude := cubicLongitude g u,
        latitude := clamp (-quarterTurn) quarterTurn a, clamped := latitudeSaturated a }
  | none =>
      { segment := none, coverage := .uncovered, longitude := linearAngle d.phase d.turns d.fraction e, latitude := d.latitude,
        clamped := false }

/-- A body disabled in the active bank holds its longitude and latitude (R48). -/
def holdBody (x : Body) : Body := { x with segment := none, coverage := .unknown, clamped := false }

/-- A seam test between window positions i and j (R51, R52): the lower position is the earlier segment, and a mismatch raises
SEAM for the body. -/
def seamTest (s : State) (b : Bank) (d : Descriptor) (body : Fin Config.bodyCount) (i j : Nat) : State :=
  let early := b.segment (d.base + min i j)
  let late := b.segment (d.base + max i j)
  if adjacent i j (b.segment (d.base + i)) (b.segment (d.base + j)) && seamMismatch early late d.tolerance then
    if seamNamesLatitude early late then s.raise .seam body.val (.seam true (latSeam early late))
    else s.raise .seam body.val (.seam false (lonSeam early late))
  else s

/-- A coverage change: the trigger and the notice (R53). -/
def coverageChange (s : State) (body : Fin Config.bodyCount) (c : Coverage) : State :=
  (s.raise .coverage body.val (.coverage c)).addTriggers [{ kind := .coverageChange, index := body.val }]

/-- The change tests of an enabled body: its record as it stood before against this evaluation's lookup (R50). None is made from
UNKNOWN or in a swap evaluation (R54). -/
def changeTests (s : State) (b : Bank) (d : Descriptor) (body : Fin Config.bodyCount) (x : Body) (found : Option Nat)
    (swapped : Bool) : State :=
  if swapped then s
  else
    match x.coverage, found with
    | .unknown, _ => s
    | .covered, none => coverageChange s body .uncovered
    | .uncovered, some _ => coverageChange s body .covered
    | .uncovered, none => s
    | .covered, some j =>
        match x.segment with
        | none => s
        | some i =>
            if i = j then s
            else (seamTest s b d body i j).addTriggers [{ kind := .segmentChange, index := body.val }]

/-- One body of the evaluation in flight (R39, R48, R49). -/
def evaluateOneBody (s : State) (ev : Evaluation) (body : Fin Config.bodyCount) : State :=
  let bank := s.store.activeBank
  let d := bank.descriptor body
  if d.enabled then
    let found := coveringPosition bank d (dayOf ev.epoch)
    (changeTests s bank d body (s.body body) found ev.swapped).setBody body (evaluateBody bank d ev.epoch found)
  else s.setBody body (holdBody (s.body body))

/-- The stage after a body: the next body, or the Target Mapper's first axis after the last (R39, R62). -/
def Stage.afterBody (body : Fin Config.bodyCount) : Stage :=
  if h : body.val + 1 < Config.bodyCount then .bodies ⟨body.val + 1, h⟩ else .mapping 0

/-- The stage of the evaluation in flight moves on. -/
def State.setStage (s : State) (stage : Stage) : State := { s with eval := s.eval.map fun e => { e with stage := stage } }

/-- BODY_EVALUATION: the next body of the evaluation in flight (R39). -/
def execBodyEvaluation (s : State) : Host.Outcome State Fault Refusal :=
  match s.eval with
  | none => notDue s
  | some ev =>
    match ev.stage with
    | .bodies body => done ((evaluateOneBody s ev body).setStage (Stage.afterBody body))
    | .mapping _ | .shaping _ | .servicing => notDue s

end Sys2Proof.Machine
end

