-- ==== Sys2Proof/Machine/Shaping.lean ====
section
/-! DEFINITION. The Motion Shaper: the motion laws, the position step, limit stops, watch points, and the changes of axis state
at the end of a shaping (chapters 5, 6 and 8). -/

namespace Sys2Proof.Machine

/-- The tracking error by kind (R84). -/
def trackingError (x : Axis) : Int :=
  match x.travel.kind with
  | .continuous => wrap (x.lastTarget - x.position)
  | .bounded => x.lastTarget - x.position
  | .wound => extendedTarget x.travel.windLimit x.position x.lastTarget - x.position

/-- The desired velocity of the tracking law (R85, R86). -/
def trackingVelocity (x : Axis) : Int :=
  clamp (-x.travel.vmax) x.travel.vmax (x.feedforward + correction x.travel.vmax x.travel.amax (trackingError x))

/-- The new velocity by the motion law that the state selects (R81, R86 to R89). An OFF axis is not shaped. -/
def lawVelocity (x : Axis) : Int :=
  match x.state with
  | .off => x.velocity
  | .homing .seek => velocityStep x.velocity x.travel.homeVelocity x.travel.amax
  | .tracking => velocityStep x.velocity (trackingVelocity x) x.travel.amax
  | .halting => velocityStep x.velocity 0 x.travel.stopDecel
  | .unhomed | .homing .settle | .homing .abandon | .holding | .faulted => velocityStep x.velocity 0 x.travel.amax

/-- The position step (R90). -/
def stepPosition (kind : AxisKind) (p v : Int) : Int :=
  match kind with
  | .continuous => angle (p + v)
  | .bounded | .wound => p + v

/-- What the step and the limit stop leave: P before any extended-range wrap, v, and the SOFT_STOP flag (R90, R93 to R95). -/
structure Motion where
  position : Int
  velocity : Int
  stopped : Bool
  deriving DecidableEq, Repr

/-- A limit stop at lo..hi of a step from pOld to p at velocity v: v becomes 0 and P the limit passed, or pOld again where that
already lay beyond it (R93, R94). -/
def limitStop (lo hi pOld p v : Int) : Motion :=
  if p > hi ∧ v > 0 then { position := if pOld > hi then pOld else hi, velocity := 0, stopped := true }
  else if p < lo ∧ v < 0 then { position := if pOld < lo then pOld else lo, velocity := 0, stopped := true }
  else { position := p, velocity := v, stopped := false }

/-- The law, the step and the stop of one shaping (R80). -/
def shapeMotion (x : Axis) : Motion :=
  let v := lawVelocity x
  let p := stepPosition x.travel.kind x.position v
  match (if stopsApply x.state x.homed then x.travel.stopLimits else none) with
  | some (lo, hi) => limitStop lo hi x.position p v
  | none => { position := p, velocity := v, stopped := false }

/-- The extended-range wrap (R91). -/
def wrapPosition (kind : AxisKind) (p : Int) : Int :=
  match kind with
  | .continuous => p
  | .bounded | .wound => reduceExt p

/-- The drive position C of an axis (R101, R121). -/
def drivePosition (kind : AxisKind) (p o : Int) : Int :=
  match kind with
  | .continuous => angle (p + o)
  | .bounded | .wound => reduceExt (p + o)

/-- The record fixed at the end of a shaping: the new P and v, O as it stands, the state the axis was shaped in (R83, R121). -/
def setpointOf (a : Fin Config.axisCount) (x : Axis) (m : Motion) : Setpoint :=
  { axis := a, node := x.travel.node, channel := x.travel.channel,
    position := drivePosition x.travel.kind (wrapPosition x.travel.kind m.position) x.offset, velocity := m.velocity,
    hold := holdFlag x.state }

/-- An enabled watch crossed by the shaping; none is tested in an evaluation marked epoch set (R141). -/
def watchFires (ev : Evaluation) (x : Axis) (m : Motion) (w : Watch) : Bool :=
  w.enabled && !ev.epochSet && watchCrossed x.travel.kind w.value x.position m.position m.velocity

/-- A loaded buffer copied into its watch (R142). -/
def Watch.reload (w : Watch) : Watch :=
  match w.next with
  | some v => { value := v, enabled := true, next := none }
  | none => w

/-- The watches after the test: a crossing of watch B reloads both (R142). -/
def reloadWatches (t : Target) (crossedB : Bool) : Target :=
  if crossedB then { t with watchA := t.watchA.reload, watchB := t.watchB.reload } else t

/-- WATCH_A, then WATCH_B (R142). -/
def watchTriggers (a : Fin Config.axisCount) (crossedA crossedB : Bool) : List Trigger :=
  (if crossedA then [{ kind := .watchA, index := a.val }] else []) ++
    (if crossedB then [{ kind := .watchB, index := a.val }] else [])

/-- The axis after the Motion Shaper and the watch test: P, v, SOFT_STOP, the watches, and the seek travel in phase SEEK
(R79, R95, R111, R142). -/
def shapedAxis (ev : Evaluation) (x : Axis) : Axis :=
  let m := shapeMotion x
  { x with
    position := wrapPosition x.travel.kind m.position, velocity := m.velocity, softStop := m.stopped,
    target := reloadWatches x.target (watchFires ev x m x.target.watchB),
    seekTravel := if x.state = .homing .seek then x.seekTravel + m.velocity else x.seekTravel }

/-- The Axis Controller's changes at the end of a shaping of an axis that has become x, with the triggers they produce
(R83, R114, R115). -/
def endShaping (s : State) (a : Fin Config.axisCount) (x : Axis) : State × List Trigger :=
  match x.state with
  | .halting => (if x.velocity = 0 then s.setAxis a { x with state := .faulted } else s.setAxis a x, [])
  | .homing .settle =>
      if x.velocity = 0 then
        ((s.setAxis a { x with state := .holding, homed := true }).raise .axis a.val (.axis false x.offset),
          [{ kind := .axisEvent, index := a.val }])
      else (s.setAxis a x, [])
  | .homing .abandon =>
      if x.velocity = 0 then
        ((s.setAxis a { x with state := .unhomed }).raise .axis a.val (.axis true x.offset),
          [{ kind := .axisEvent, index := a.val }])
      else (s.setAxis a x, [])
  | .homing .seek =>
      if mag x.seekTravel > x.travel.homeSpan then (s.setAxis a x).raiseFault a .homeNotFound else (s.setAxis a x, [])
  | .off | .unhomed | .holding | .tracking | .faulted => (s.setAxis a x, [])

/-- The evaluation after a shaping: the record joins its records, and the triggers its list, the watches' before the
AXIS_EVENT (R83, R150). -/
def Evaluation.afterShaping (ev : Evaluation) (a : Fin Config.axisCount) (x : Axis) (events : List Trigger) : Evaluation :=
  let m := shapeMotion x
  { ev with
    stage := .shaping (a.val + 1),
    records := ev.records ++ [setpointOf a x m],
    triggers := ev.triggers ++
      (watchTriggers a (watchFires ev x m x.target.watchA) (watchFires ev x m x.target.watchB) ++ events) }

/-- One live axis shaped (R80). -/
def shapeOneAxis (s : State) (ev : Evaluation) (a : Fin Config.axisCount) : State :=
  let ended := endShaping s a (shapedAxis ev (s.axis a))
  { ended.1 with eval := some (ev.afterShaping a (s.axis a) ended.2) }

/-- The first live axis from number n on; OFF axes are passed over (R80). -/
def State.nextLive (s : State) (n : Nat) : Option (Fin Config.axisCount) :=
  allAxes.find? fun a => decide (n ≤ a.val) && decide ((s.axis a).state ≠ .off)

/-- AXIS_SHAPING: the next live axis of the evaluation in flight (R80). -/
def execAxisShaping (s : State) : Host.Outcome State Fault Refusal :=
  match s.eval with
  | none => notDue s
  | some ev =>
    match ev.stage with
    | .shaping n =>
      match s.nextLive n with
      | some a => done (shapeOneAxis s ev a)
      | none => notDue s
    | .bodies _ | .mapping _ | .servicing => notDue s

end Sys2Proof.Machine
end

