-- ==== Sys2Proof/Machine/Drives.lean ====
section
/-! DEFINITION. The Drive Supervisor: the handling of FEEDBACK records and the emission of the SETPOINT frame (chapters 6, 7). -/

namespace Sys2Proof.Machine

/-! ## FEEDBACK (R126 to R134, R112, R113) -/

/-- The axis of a drive channel; node 0 and a channel above 3 belong to no axis (R120, R126, R181). -/
def State.axisOfChannel (s : State) (node channel : Nat) : Option (Fin Config.axisCount) :=
  if node = 0 ∨ channel > 3 then none
  else allAxes.find? fun a => decide ((s.axis a).travel.node = node) && decide ((s.axis a).travel.channel = channel)

/-- Step 1: the actual position and the drive-fault bit are stored (R127). -/
def storeActual (x : Axis) (r : FeedbackRecord) : Axis :=
  { x with drive := { x.drive with actual := some r.actual, faultBit := r.fault } }

/-- The home edge capture (R112): P moves by the change of offset, so that the drive position stays. -/
def captureHome (x : Axis) (actual : Int) : Axis :=
  let fix (v : Int) : Int :=
    match x.travel.kind with
    | .continuous => angle v
    | .bounded | .wound => reduceExt v
  let o := fix (actual - x.travel.homePosition)
  { x with position := fix (x.position + x.offset - o), offset := o, state := .homing .settle }

/-- The SWITCH notice is raised at this refresh (R134): counted at a live change while an entry stands; made, where none stands, at
a live change or at the first refresh after the image was unknown, when the image differs from the reported one. -/
def raisesSwitch (standing : Bool) (before : Option Switches) (image reported : Switches) : Bool :=
  if standing then liveChange before image
  else (liveChange before image || before.isNone) && decide (image ≠ reported)

/-- Step 2: the live image is refreshed, SWITCH_CHANGE produced and SWITCH raised; then the home edge capture and the home limit
test, in that order (R133, R134, R112, R113). -/
def refreshSwitches (s : State) (a : Fin Config.axisCount) (r : FeedbackRecord) : State × List Trigger :=
  let x := s.axis a
  let image := r.switches.masked x.travel.switchMask
  let before := x.drive.live
  let refreshed := { x with drive := { x.drive with live := some image } }
  let captured := if x.state = .homing .seek ∧ homeEdge before image then captureHome refreshed r.actual else refreshed
  let s1 := s.setAxis a captured
  let s2 :=
    if raisesSwitch (s.standing .switch a.val) before image x.drive.reported then
      s1.raise .switch a.val .switch
    else s1
  let limited :=
    if captured.state = .homing .seek ∧ homeLimit x.travel.homeVelocity image then s2.raiseFault a .homeLimit else (s2, [])
  (limited.1, (if liveChange before image then [{ kind := .switchChange, index := a.val }] else []) ++ limited.2)

/-- The following error at a fresh match (R129). -/
def followingError (kind : AxisKind) (c actual : Int) : Int :=
  match kind with
  | .continuous => wrap (c - angle actual)
  | .bounded | .wound => c - actual

/-- The entry of the history with the echoed cycle (R128). -/
def matchCycle (history : List (BitVec 8 × Int)) (cycle : BitVec 8) : Option Int :=
  (history.find? fun e => decide (e.1 = cycle)).map (·.2)

/-- Step 4: a fresh record is judged for following, zeroes the miss count and clears the answer-pending flag; a stale one changes
nothing (R128, R129). -/
def matchRecord (s : State) (a : Fin Config.axisCount) (cycle : BitVec 8) (r : FeedbackRecord) : State × List Trigger :=
  let x := s.axis a
  match matchCycle x.drive.history cycle with
  | none => (s, [])
  | some c =>
      let fe := followingError x.travel.kind c r.actual
      let s1 := s.setAxis a { x with drive := { x.drive with followError := some fe, missCount := 0, answerPending := false } }
      if mag fe > x.travel.feLimit then s1.raiseFault a .following else (s1, [])

/-- Step 5 (R130). -/
def faultRecord (s : State) (a : Fin Config.axisCount) (r : FeedbackRecord) : State × List Trigger :=
  if r.fault then s.raiseFault a .driveFault else (s, [])

/-- Step 6: the hard-limit test with the velocity that stands (R131). -/
def limitRecord (s : State) (a : Fin Config.axisCount) : State × List Trigger :=
  if hardLimit (s.axis a).drive.live (s.axis a).velocity then s.raiseFault a .hardLimit else (s, [])

/-- The six steps of a record that maps to an axis, with the occurrences they give in the order in which they arise (R126). -/
def handleRecord (s : State) (a : Fin Config.axisCount) (cycle : BitVec 8) (r : FeedbackRecord) : State × List Trigger :=
  let two := refreshSwitches (s.setAxis a (storeActual (s.axis a) r)) a r
  if (two.1.axis a).state = .off then two
  else
    let four := matchRecord two.1 a cycle r
    let five := faultRecord four.1 a r
    let six := limitRecord five.1 a
    (six.1, two.2 ++ four.2 ++ five.2 ++ six.2)

/-- One record of a FEEDBACK frame: handled where it maps to an axis, and then its occurrences reach the Cue Engine in turn
(R126, R151; log entry 5). -/
def takeRecord (node : Nat) (cycle : BitVec 8) (s : State) (r : FeedbackRecord) : State :=
  match s.axisOfChannel node r.channel with
  | none => s
  | some a =>
      let handled := handleRecord s a cycle r
      handled.2.foldl handOccurrence handled.1

/-- The Drive Supervisor takes a FEEDBACK frame of a drive node, its records in order (R126, R181). -/
def takeFeedback (s : State) (node : Nat) (payload : List Byte) : State :=
  match decodeFeedback payload with
  | none => s
  | some (cycle, records) => records.foldl (takeRecord node cycle) s

/-! ## The emission (R122, R123, R125, R131, R132) -/

/-- The limit test of an emission, with the velocity of the record (R123 step 1, R131). -/
def emitLimit (s : State) (r : Setpoint) : State × List Trigger :=
  if hardLimit (s.axis r.axis).drive.live r.velocity then s.raiseFault r.axis .hardLimit else (s, [])

/-- The miss test: an unanswered record counts a miss, up to 15, and a count at miss_limit or above is a feedback loss
(R123 step 2, R132). -/
def emitMiss (s : State) (r : Setpoint) : State × List Trigger :=
  let x := s.axis r.axis
  if x.drive.answerPending then
    let n := min 15 (x.drive.missCount + 1)
    let s1 := s.setAxis r.axis { x with drive := { x.drive with missCount := n } }
    if n ≥ x.travel.missLimit then s1.raiseFault r.axis .feedbackLost else (s1, [])
  else (s, [])

/-- An entry added to a history of at most 4 (R125). -/
def pushHistory (history : List (BitVec 8 × Int)) (e : BitVec 8 × Int) : List (BitVec 8 × Int) :=
  (if history.length < Config.bufferSize then history else history.tail) ++ [e]

/-- The answer awaited and the history entry of a record sent (R123 step 3, R125). -/
def emitRecord (s : State) (cycle : BitVec 8) (r : Setpoint) : State :=
  let x := s.axis r.axis
  s.setAxis r.axis
    { x with drive := { x.drive with answerPending := true, history := pushHistory x.drive.history (cycle, r.position) } }

/-- The tests and the history of one axis of the frame, its triggers joining the evaluation's (R122 step 2, R123). -/
def emitAxis (cycle : BitVec 8) (s : State) (r : Setpoint) : State :=
  let limit := emitLimit s r
  let miss := emitMiss limit.1 r
  (emitRecord miss.1 cycle r).addTriggers (limit.2 ++ miss.2)

/-- The emission taken whole: the cycle number, the tests and histories, the handover; the evaluation is complete where it has no
trigger (R11, R122, R150). -/
def emitSetpoint (s : State) (ev : Evaluation) : State :=
  let cycle := s.cycle + 1
  let tested := ev.records.foldl (emitAxis cycle) { s with cycle := cycle }
  ((tested.handOver (setpointFrame cycle ev.records)).setStage .servicing).completeIfServiced

/-- SETPOINT_EMISSION: due when the shaper has finished the last live axis (R122). -/
def execSetpointEmission (s : State) : Host.Outcome State Fault Refusal :=
  match s.eval with
  | none => notDue s
  | some ev =>
    match ev.stage with
    | .shaping n =>
      match s.nextLive n with
      | none => done (emitSetpoint s ev)
      | some _ => notDue s
    | .bodies _ | .mapping _ | .servicing => notDue s

end Sys2Proof.Machine
end

