-- ==== Sys2Proof/Machine/Ports.lean ====
section
/-! DEFINITION. The two ports: frames received, and frames whose sending ends (chapter 9, R158 to R164). -/

namespace Sys2Proof.Machine

/-- A frame that fails its check or its length is discarded (R158, R180). Where it fails both, the reason reported is a free value
(log entry 4). None is answered for a frame that passes. -/
def receiveCheck (s : State) (port : Port) (f : Frame) : Option State :=
  match checkFails f, lengthFails f with
  | false, false => none
  | true, false => some (s.discard port .check)
  | false, true => some (s.discard port .length)
  | true, true =>
      some (State.discard { s with freeCount := s.freeCount + 1 } port
        (if Config.checkReasonFirst s.freeCount then .check else .length))

/-- A REQUEST consumed at the U port (R164, R166): discarded with LENGTH where it carries no tag and code; admitted against a
free credit; else dropped with a REQUEST_DROP notice. -/
def admitRequest (s : State) (payload : List Byte) : State :=
  match payload with
  | tag :: code :: args =>
      if s.mgmt.freeCredits > 0 then
        { s with mgmt :=
          { s.mgmt with
            freeCredits := s.mgmt.freeCredits - 1,
            requests := s.mgmt.requests ++ [{ tag := tag, code := code, args := args }] } }
      else s.raise .requestDrop 0 (.requestDrop tag)
  | [] | [_] => s.discard .u .length

/-- A checked frame from the U port, by its node and kind (R159, R180). -/
def dispatchU (s : State) (f : Frame) : State :=
  if frameNode f > 31 then s.discard .u .address
  else if frameNode f ≠ 0 then s.placeDownstream f
  else if frameKind f = kindSync then externalSync s
  else if frameKind f = kindRequest then admitRequest s (framePayload f)
  else s.discard .u .address

/-- A checked frame from the D port, by its node and kind (R160, R180): a FEEDBACK frame is handed to the Drive Supervisor and
then placed in the upstream buffer. -/
def dispatchD (s : State) (f : Frame) : State :=
  if frameNode f > 31 ∨ frameNode f = 0 then s.discard .d .address
  else if frameKind f = kindFeedback ∧ frameNode f ≤ 30 then (takeFeedback s (frameNode f) (framePayload f)).placeUpstream f
  else s.placeUpstream f

/-- U_FRAME_RECEIVED (R158, R159). -/
def execUFrameReceived (frame : Frame) (s : State) : Host.Outcome State Fault Refusal :=
  match receiveCheck s .u frame with
  | some discarded => done discarded
  | none => done (dispatchU s frame)

/-- D_FRAME_RECEIVED (R158, R160). -/
def execDFrameReceived (frame : Frame) (s : State) : Host.Outcome State Fault Refusal :=
  match receiveCheck s .d frame with
  | some discarded => done discarded
  | none => done (dispatchD s frame)

/-- D_TRANSMIT_END: the frame being sent ends, and the next is chosen (R162). -/
def execDTransmitEnd (s : State) : Host.Outcome State Fault Refusal :=
  match s.ring.dSending with
  | some _ => done { s with ring := { s.ring with dSending := none } }
  | none => notDue s

/-- The credit of a REPLY whose sending ends (R163, R164). -/
def creditOf (u : USending) : Nat :=
  match u with
  | .reply _ => 1
  | .forwarded _ | .notice _ => 0

/-- U_TRANSMIT_END: the frame being sent ends, a REPLY's credit returns, and the next is chosen (R163). -/
def execUTransmitEnd (s : State) : Host.Outcome State Fault Refusal :=
  match s.ring.uSending with
  | some u =>
      done { s with
        ring := { s.ring with uSending := none },
        mgmt := { s.mgmt with freeCredits := s.mgmt.freeCredits + creditOf u } }
  | none => notDue s

end Sys2Proof.Machine
end

