-- ==== Sys2Proof/Machine/Management.lean ====
section
/-! DEFINITION. The Management Unit: READ_STATUS, the device mode, unknown requests and the two resets (chapters 9, 10). -/

namespace Sys2Proof.Machine

/-! ## READ_STATUS (R178, R179, R185) -/

/-- The number of entries of a class in the Notice Set (R178). -/
def State.noticeCount (s : State) (classA : Bool) : Nat := s.notices.countP fun n => n.kind.classA == classA

/-- The swap day and the recorded side, both 0 unless the swap state is PENDING_EPOCH (R185). -/
def swapStatus (swap : SwapState) : List Byte :=
  match swap with
  | .pendingEpoch day side => intBytes 4 day ++ [codeByte side.code]
  | .idle | .pendingNext => intBytes 4 0 ++ [0]

/-- The content of a READ_STATUS reply (R178, R185). -/
def statusContent (s : State) : List Byte :=
  let c := s.clock
  [codeByte s.mgmt.mode.code] ++ natBytes 4 c.evalCount.toNat ++ [flagByte s.inFlight] ++
    ([codeByte c.cadence.code] ++ intBytes 8 c.epoch ++ intBytes 6 c.rate ++ intBytes 6 c.target ++ intBytes 6 c.slew ++
      [codeByte c.pattern, flagByte c.pendingSet.isSome] ++ intBytes 8 (c.pendingSet.getD 0) ++ intBytes 4 c.watchDay ++
      [flagByte c.watchEnabled]) ++
    ([codeByte s.store.active.val, codeByte s.store.swap.code] ++ swapStatus s.store.swap) ++
    natBytes 2 s.ring.errorsU ++ natBytes 2 s.ring.errorsD ++
    [codeByte s.mgmt.freeCredits, codeByte s.mgmt.requests.length] ++
    [codeByte s.notices.length, codeByte (s.noticeCount true), codeByte (s.noticeCount false)] ++
    s.bodies.toList.flatMap fun x => [codeByte x.coverage.code, flagByte x.clamped]

/-- READ_STATUS (R178, R179): the counters named by the selector are read into the reply and then set to 0. -/
def runReadStatus (r : Request) (s : State) : Answer :=
  match r.args with
  | [selector] =>
      let n := selector.toNat
      if n > 3 then refuse s .range
      else
        { state := { s with ring :=
            { s.ring with
              errorsU := if n = 1 ∨ n = 3 then 0 else s.ring.errorsU,
              errorsD := if n = 2 ∨ n = 3 then 0 else s.ring.errorsD } },
          result := .ok, content := statusContent s }
  | _ => refuse s .range

/-! ## The device mode (R167, R168) -/

/-- An axis that lets ENTER_SHOW through: OFF, or HOMED and in HOLDING or TRACKING (R167). -/
def Axis.fitForShow (x : Axis) : Bool :=
  decide (x.state = .off) || (x.homed && (decide (x.state = .holding) || decide (x.state = .tracking)))

/-- ENTER_SHOW (R167): a refusal names the lowest axis that fails, and its state. -/
def runEnterShow (r : Request) (s : State) : Answer :=
  if r.args ≠ [] then refuse s .range
  else
    match s.mgmt.mode with
    | .showing => accept s []
    | .setup =>
      match allAxes.find? fun a => !(s.axis a).fitForShow with
      | some a => { state := s, result := .state, content := [codeByte a.val, codeByte (s.axis a).state.code] }
      | none => accept { s with mgmt := { s.mgmt with mode := .showing } } []

/-- ENTER_SETUP (R167). -/
def runEnterSetup (r : Request) (s : State) : Answer :=
  if r.args ≠ [] then refuse s .range else accept { s with mgmt := { s.mgmt with mode := .setup } } []

/-! ## Unknown requests (R166) -/

/-- A code that names no request of the catalogue (section 11.3). -/
def unknownCode (r : Request) : Bool := decide (r.code.toNat = 0) || decide (r.code.toNat > 22)

def runUnknown (_r : Request) (s : State) : Answer := refuse s .kind

/-! ## The resets -/

/-- R19, soft reset. -/
def Clock.softReset (c : Clock) : Clock :=
  { c with
    rate := 0, target := 0, pattern := 1, pendingSet := none, setSinceIssue := false, prevEpoch := c.epoch, evalCount := 0,
    watchEnabled := false, cadence := .unarmed, cadenceTimer := none, localGenerator := none }

/-- R56, soft reset. -/
def Body.softReset (x : Body) : Body := { x with segment := none, coverage := .unknown, clamped := false }

/-- R144, soft reset. -/
def Watch.softReset (w : Watch) : Watch := { w with enabled := false, next := none }

/-- R138, soft reset. -/
def Drive.softReset (d : Drive) : Drive :=
  { d with
    history := [], answerPending := false, missCount := 0, actual := none, faultBit := false, followError := none, live := none }

/-- R77, R96, R119, R138, R144, soft reset. -/
def Axis.softReset (x : Axis) : Axis :=
  { x with
    target := { x.target with watchA := x.target.watchA.softReset, watchB := x.target.watchB.softReset },
    velocity := 0, softStop := false, state := .off, homed := false, causes := [], targetClamped := false, suppress := true,
    drive := x.drive.softReset }

/-- R157, soft reset. -/
def Channel.softReset (c : Channel) : Channel := { c with armed := false, cursor := c.listStart, remaining := 0 }

/-- The credits held when the soft reset has acted: its own, and that of a REPLY whose sending is in progress (R171). -/
def creditsHeld (sending : Option USending) : Nat :=
  match sending with
  | some u => 1 + creditOf u
  | none => 1

/-- The soft reset acts as one event (R170, R171): every block takes its soft-reset values, the buffers, queues and the Notice
Set are emptied, and the SOFT_RESET alone stands in the Request Queue, to be answered. -/
def softResetState (s : State) (r : Request) : State :=
  { s with
    clock := s.clock.softReset,
    store := { s.store with swap := .idle },
    bodies := s.bodies.map Body.softReset,
    site := { s.site with changed := false },
    axes := s.axes.map Axis.softReset,
    cues := { s.cues with channels := s.cues.channels.map Channel.softReset, held := [] },
    ring := { s.ring with downstream := [], upstream := [] },
    mgmt :=
      { freeCredits := Config.creditCount - creditsHeld s.ring.uSending, requests := [r], replies := [], mode := .setup,
        resetReply := true },
    notices := [] }

/-- SOFT_RESET (R170, R184). -/
def runSoftReset (r : Request) (s : State) : Answer :=
  if r.args ≠ [] then refuse s .range else accept (softResetState s r) []

/-- Power-on reset (R169): every block at its power-on values. The model's own queue of commands and its count of free values
stand (log entry 11). -/
def powerOnState (s : State) : State := { State.reset with freeCount := s.freeCount, pending := s.pending }

/-! ## The commands -/

def execPowerOnReset (s : State) : Host.Outcome State Fault Refusal := done (powerOnState s)
def execReadStatus (s : State) : Host.Outcome State Fault Refusal := execute (hasCode 1) false runReadStatus s
def execEnterShow (s : State) : Host.Outcome State Fault Refusal := execute (hasCode 20) false runEnterShow s
def execEnterSetup (s : State) : Host.Outcome State Fault Refusal := execute (hasCode 21) false runEnterSetup s
def execSoftReset (s : State) : Host.Outcome State Fault Refusal := execute (hasCode 22) true runSoftReset s
def execUnknownRequest (s : State) : Host.Outcome State Fault Refusal := execute unknownCode false runUnknown s

end Sys2Proof.Machine
end

