-- ==== Sys2Proof/Machine/Targets.lean ====
section
/-! DEFINITION. The Target Mapper: sources, targets, feedforward and its suppression, and SET_SITE (chapter 4). -/

namespace Sys2Proof.Machine

/-- A body's longitude and latitude as the records hold them (R62). An index above 11 is held by no axis (R60). -/
def State.bodyLongitude (s : State) (i : Nat) : Int := ((indexOf Config.bodyCount i).map fun b => (s.body b).longitude).getD 0
def State.bodyLatitude (s : State) (i : Nat) : Int := ((indexOf Config.bodyCount i).map fun b => (s.body b).latitude).getD 0

/-- The target of a leader, formed earlier in the same stage (R68). -/
def State.leaderTarget (s : State) (i : Nat) : Int := ((indexOf Config.axisCount i).map fun a => (s.axis a).lastTarget).getD 0

/-- The source value s of an axis at an epoch (R62, R63). FIXED has none: its value is not read (R65). -/
def sourceValue (s : State) (t : Target) (epoch : Int) : Int :=
  match t.source with
  | .bodyLongitude => s.bodyLongitude t.index
  | .bodyLatitude => s.bodyLatitude t.index
  | .linear =>
      let base := linearAngle t.phase t.turns t.fraction epoch
      if t.siteFlag then angle (base + s.site.longitude) else base
  | .siteLatitude => s.site.latitude
  | .follow => s.leaderTarget t.index
  | .fixed => 0

/-- A source value as the kind of the mapped axis reads it (R64). -/
def readSource (kind : AxisKind) (v : Int) : Int :=
  match kind with
  | .bounded => wrap v
  | .continuous | .wound => angle v

/-- The scaled source g (R65). -/
def scaledSource (s : State) (x : Axis) (epoch : Int) : Int :=
  if x.target.source = .fixed then 0
  else x.target.scale * readSource x.travel.kind (sourceValue s x.target epoch) / 65536

/-- offset + g, the target before the kind wraps or clamps it (R66, R67). -/
def unclampedTarget (s : State) (x : Axis) (epoch : Int) : Int :=
  readOffset x.travel.kind x.target.offset + scaledSource s x epoch

/-- The target θ (R66, R67). -/
def axisTarget (s : State) (x : Axis) (epoch : Int) : Int :=
  match x.travel.kind with
  | .bounded => clamp x.travel.softLow x.travel.softHigh (unclampedTarget s x epoch)
  | .continuous | .wound => angle (unclampedTarget s x epoch)

/-- The leader of a follower is suppressed in this evaluation (R73). -/
def leaderSuppressed (t : Target) (suppressed : List (Fin Config.axisCount)) : Bool :=
  decide (t.source = .follow) && suppressed.any fun a => decide (a.val = t.index)

/-- The axis is suppressed in the evaluation (R73). -/
def suppressedIn (s : State) (ev : Evaluation) (x : Axis) : Bool :=
  x.suppress || ev.epochSet || ev.swapped || s.site.changed || leaderSuppressed x.target ev.suppressed

/-- The feedforward velocity of an axis that is not suppressed (R71). -/
def feedforwardOf (x : Axis) (th : Int) : Int :=
  let moved :=
    match x.travel.kind with
    | .bounded => th - x.prevTarget
    | .continuous | .wound => wrap (th - x.prevTarget)
  clamp (-x.travel.vmax) x.travel.vmax moved

/-- One axis mapped: its target, its feedforward, θprev replaced and its suppression flag consumed (R62, R71 to R74). -/
def mapAxis (s : State) (ev : Evaluation) (x : Axis) : Axis :=
  let th := axisTarget s x ev.epoch
  { x with
    lastTarget := th, prevTarget := th,
    feedforward := if suppressedIn s ev x then 0 else feedforwardOf x th,
    targetClamped := targetClamps x.travel (unclampedTarget s x ev.epoch),
    suppress := false }

/-- The evaluation after an axis is mapped: the axis is noted for its followers where it was suppressed, and the Motion Shaper
follows the last axis (R62, R73). -/
def Evaluation.afterMapping (ev : Evaluation) (a : Fin Config.axisCount) (suppressed : Bool) : Evaluation :=
  { ev with
    suppressed := if suppressed then a :: ev.suppressed else ev.suppressed,
    stage := if h : a.val + 1 < Config.axisCount then .mapping ⟨a.val + 1, h⟩ else .shaping 0 }

/-- One axis of the evaluation in flight mapped; the site-change flag is cleared when the last is done (R58, R62). -/
def mapOneAxis (s : State) (ev : Evaluation) (a : Fin Config.axisCount) : State :=
  let x := s.axis a
  let s1 := s.setAxis a (mapAxis s ev x)
  { s1 with
    eval := some (ev.afterMapping a (suppressedIn s ev x)),
    site := { s.site with changed := if a.val + 1 < Config.axisCount then s.site.changed else false } }

/-- TARGET_MAPPING: the next axis of the evaluation in flight (R62). -/
def execTargetMapping (s : State) : Host.Outcome State Fault Refusal :=
  match s.eval with
  | none => notDue s
  | some ev =>
    match ev.stage with
    | .mapping a => done (mapOneAxis s ev a)
    | .bodies _ | .shaping _ | .servicing => notDue s

/-- SET_SITE (R58, R185): both fields written and the site-change flag set. -/
def runSetSite (r : Request) (s : State) : Answer :=
  let lat := beInt (slice r.args 0 4)
  let lon : Int := beNat (slice r.args 4 4)
  if r.args.length = 8 ∧ within (-quarterTurn) quarterTurn lat then
    accept { s with site := { latitude := lat, longitude := lon, changed := true } } (intBytes 4 lat ++ intBytes 4 lon)
  else refuse s .range

def execSetSite (s : State) : Host.Outcome State Fault Refusal := execute (hasCode 6) true runSetSite s

end Sys2Proof.Machine
end

