-- ==== Sys2Proof/Machine/Dispatch.lean ====
section
/-! DEFINITION. Which meaning each command has: one arm per constructor of Instr. -/

namespace Sys2Proof.Machine

def exec (i : Instr) (s : State) : Host.Outcome State Fault Refusal :=
  match i with
  | .powerOnReset => Sys2Proof.Machine.execPowerOnReset s
  | .uFrameReceived frame => Sys2Proof.Machine.execUFrameReceived frame s
  | .dFrameReceived frame => Sys2Proof.Machine.execDFrameReceived frame s
  | .cadenceLoss => Sys2Proof.Machine.execCadenceLoss s
  | .localSync => Sys2Proof.Machine.execLocalSync s
  | .bodyEvaluation => Sys2Proof.Machine.execBodyEvaluation s
  | .targetMapping => Sys2Proof.Machine.execTargetMapping s
  | .axisShaping => Sys2Proof.Machine.execAxisShaping s
  | .setpointEmission => Sys2Proof.Machine.execSetpointEmission s
  | .occurrenceService => Sys2Proof.Machine.execOccurrenceService s
  | .dTransmitEnd => Sys2Proof.Machine.execDTransmitEnd s
  | .uTransmitEnd => Sys2Proof.Machine.execUTransmitEnd s
  | .unknownRequest => Sys2Proof.Machine.execUnknownRequest s
  | .readStatus => Sys2Proof.Machine.execReadStatus s
  | .setEpoch => Sys2Proof.Machine.execSetEpoch s
  | .setRate => Sys2Proof.Machine.execSetRate s
  | .setEpochWatch => Sys2Proof.Machine.execSetEpochWatch s
  | .setCadence => Sys2Proof.Machine.execSetCadence s
  | .setSite => Sys2Proof.Machine.execSetSite s
  | .readAxis => Sys2Proof.Machine.execReadAxis s
  | .writeAxis => Sys2Proof.Machine.execWriteAxis s
  | .enable => Sys2Proof.Machine.execEnable s
  | .disable => Sys2Proof.Machine.execDisable s
  | .home => Sys2Proof.Machine.execHome s
  | .track => Sys2Proof.Machine.execTrack s
  | .stop => Sys2Proof.Machine.execStop s
  | .clearFault => Sys2Proof.Machine.execClearFault s
  | .readBody => Sys2Proof.Machine.execReadBody s
  | .writeBody => Sys2Proof.Machine.execWriteBody s
  | .loadSegments => Sys2Proof.Machine.execLoadSegments s
  | .readSegments => Sys2Proof.Machine.execReadSegments s
  | .swapBanks => Sys2Proof.Machine.execSwapBanks s
  | .cancelSwap => Sys2Proof.Machine.execCancelSwap s
  | .writeCues => Sys2Proof.Machine.execWriteCues s
  | .writeChannel => Sys2Proof.Machine.execWriteChannel s
  | .armChannel => Sys2Proof.Machine.execArmChannel s
  | .disarmChannel => Sys2Proof.Machine.execDisarmChannel s
  | .enterShow => Sys2Proof.Machine.execEnterShow s
  | .enterSetup => Sys2Proof.Machine.execEnterSetup s
  | .softReset => Sys2Proof.Machine.execSoftReset s
  | .axisCommand => Sys2Proof.Machine.execAxisCommand s

end Sys2Proof.Machine
end

