-- ==== Sys2Proof/Safety.lean ====
section
/-! DEFINITION. The terms in which claims about the part are stated: how a request is answered, what a step leaves as it stands,
and the laws that every step keeps. -/

namespace Sys2Proof.Machine

/-! ## Answers and frames -/

/-- The command i ends the execution of the request r: what it leaves of the part is u, its REPLY joins the Reply Queue with this
code and content, and each idle transmitter begins what waits for it (R162, R163, R165, R166). -/
def Answers (i : Instr) (s : State) (r : Request) (u : State) (result : ReplyCode) (content : List Byte) : Prop :=
  exec i s = .next (u.answer r result content).settle

/-- An axis but for its reported switch image, which the sending of a SWITCH notice writes (R135). -/
def Axis.butReported (x : Axis) : Axis := { x with drive := { x.drive with reported := Switches.none } }

/-- Nothing of s is changed in t but the frames in the buffers and the transmitters, the two queues of requests and replies, the
Notice Set, and the reported switch images that sent SWITCH notices write. -/
structure LineOnly (s t : State) : Prop where
  clock : t.clock = s.clock
  eval : t.eval = s.eval
  store : t.store = s.store
  bodies : t.bodies = s.bodies
  site : t.site = s.site
  axes : ∀ a, (t.axis a).butReported = (s.axis a).butReported
  cycle : t.cycle = s.cycle
  cues : t.cues = s.cues
  mode : t.mgmt.mode = s.mgmt.mode
  freeCredits : t.mgmt.freeCredits = s.mgmt.freeCredits
  errorsU : t.ring.errorsU = s.ring.errorsU
  errorsD : t.ring.errorsD = s.ring.errorsD
  freeCount : t.freeCount = s.freeCount
  pending : t.pending = s.pending

/-- A frame that passes its check and its length at a receiver (R158, R180). -/
abbrev Checked (f : Frame) : Prop := checkFails f = false ∧ lengthFails f = false

/-! ## Laws of the Ring Interface and the Management Unit -/

/-- Every credit is free, or held by one admitted request until the sending of its reply ends (R164). -/
def CreditsBalance (s : State) : Prop :=
  s.mgmt.freeCredits + s.mgmt.requests.length + s.mgmt.replies.length + (s.ring.uSending.map creditOf).getD 0 =
    Config.creditCount

/-- The bounds of R158, R161 and R162: four frames a buffer, four SETPOINT frames waiting, counters of 16 bits. -/
def BuffersBounded (s : State) : Prop :=
  s.ring.downstream.length ≤ 4 ∧ s.ring.upstream.length ≤ 4 ∧ s.ring.setpoints.length ≤ 4 ∧ s.ring.errorsU ≤ 65535 ∧
    s.ring.errorsD ≤ 65535

/-- A transmitter is idle only while nothing waits for it (R162, R163); notices do not wait for it while a SOFT_RESET reply has
not begun its sending (R171). -/
def NothingWaitsOnIdle (s : State) : Prop :=
  (s.ring.dSending = none → s.ring.setpoints = [] ∧ s.ring.downstream = []) ∧
    (s.ring.uSending = none →
      s.ring.upstream = [] ∧ s.mgmt.replies = [] ∧ (s.mgmt.resetReply = false → s.notices = []))

/-- While the SOFT_RESET reply has not begun its sending it stands at the head of the Reply Queue (R171). -/
def ResetReplyFirst (s : State) : Prop :=
  s.mgmt.resetReply = true → ∃ r rest, s.mgmt.replies = r :: rest ∧ r.code = 22 ∧ r.result = .ok

/-! ## Laws of the Notice Set (R173) -/

/-- How many indexes a notice kind has. -/
def NoticeKind.keys : NoticeKind → Nat
  | .fault | .switch | .axis => 24
  | .coverage | .seam => 12
  | .cue => 8
  | .cadence | .overrun | .epochLimit | .linkU | .linkD | .requestDrop | .bankSwap => 1

/-- At most one entry for each key, each of a key of its kind, with a count from 1 to 255. -/
def NoticesSound (ns : List Notice) : Prop :=
  (ns.map fun n => (n.kind, n.index)).Nodup ∧ ∀ n ∈ ns, n.index < n.kind.keys ∧ 1 ≤ n.count ∧ n.count ≤ 255

/-! ## Laws of the stores -/

/-- The active bank passes validation, and so does a sealed shadow (R24, R32). -/
def EphemerisLaw (t : Store) : Prop :=
  bankFailure t.activeBank = none ∧ (t.swap ≠ .idle → bankFailure (t.banks.get t.shadow) = none)

/-- The segment slots of both banks and the Cue List stand in their canonical form, each within its own addresses. -/
def StoresSound (s : State) : Prop :=
  (∀ b : Fin 2, Slots.wf Segment.zero (s.bank b).slots = true ∧ ∀ e ∈ (s.bank b).slots, e.1 < Config.slotCount) ∧
    Slots.wf CueAction.none s.cues.list = true ∧ ∀ e ∈ s.cues.list, e.1 < Config.cueCount

/-! ## Laws of the Sky Clock (R1, R2, R6, R15, R16, R18) -/

/-- The ranges of section 1.1, with the timer running in WATCHING alone and the generator in LOCAL alone. -/
def ClockSound (c : Clock) : Prop :=
  (epochMin ≤ c.epoch ∧ c.epoch ≤ epochMax) ∧ (epochMin ≤ c.prevEpoch ∧ c.prevEpoch ≤ epochMax) ∧
    mag c.rate ≤ rateLimit ∧ mag c.target ≤ rateLimit ∧ (1 ≤ c.slew ∧ c.slew ≤ rateLimit) ∧
    (1 ≤ c.pattern ∧ c.pattern ≤ 16) ∧ (∀ e, c.pendingSet = some e → epochMin ≤ e ∧ e ≤ epochMax) ∧
    (-dayLimit ≤ c.watchDay ∧ c.watchDay ≤ dayLimit) ∧ (200 ≤ c.cadenceTimeout ∧ c.cadenceTimeout ≤ 65535) ∧
    (200 ≤ c.localPeriod ∧ c.localPeriod ≤ 65535) ∧ (c.cadenceTimer.isSome ↔ c.cadence = .watching) ∧
    (c.localGenerator.isSome ↔ c.cadence = .localPaced)

/-! ## Laws of the axes -/

/-- The travel fields are ones that R99 accepts. -/
def Travel.Valid (t : Travel) : Prop :=
  (-halfTurn ≤ t.softLow ∧ t.softLow < t.softHigh ∧ t.softHigh ≤ halfTurn - 1) ∧ (1 ≤ t.wind ∧ t.wind ≤ 1024) ∧
    (1 ≤ t.vmax ∧ t.vmax ≤ 268435456) ∧ (1 ≤ t.amax ∧ t.amax ≤ 16777216) ∧ (1 ≤ t.stopDecel ∧ t.stopDecel ≤ 16777216) ∧
    (t.homeVelocity ≠ 0 ∧ mag t.homeVelocity ≤ t.vmax) ∧
    homePositionAccepted t.kind t.softLow t.softHigh t.wind t.homePosition = true ∧
    (1 ≤ t.homeSpan ∧ t.homeSpan ≤ 1099511627776) ∧ t.node ≤ 30 ∧ t.channel ≤ 3 ∧ (1 ≤ t.feLimit ∧ t.feLimit ≤ halfTurn) ∧
    (1 ≤ t.missLimit ∧ t.missLimit ≤ 15)

/-- HOMED by state, as the table of R97 has it: clear, set, or either. -/
def homedAs (state : AxisState) (homed : Bool) : Prop :=
  match state with
  | .off | .unhomed | .homing _ => homed = false
  | .holding | .tracking => homed = true
  | .halting | .faulted => True

/-- The fault record is empty in every state but HALTING and FAULTED, and holds each cause at most once (R118). -/
def recordAs (state : AxisState) (causes : List Cause) : Prop :=
  match state with
  | .halting | .faulted => causes ≠ [] ∧ causes.Nodup
  | .off | .unhomed | .homing _ | .holding | .tracking => causes = []

/-- The source index by the source kind, as an axis of this number may hold it (R59, R60): a body, a leader below the axis itself, or
0 (log entry 17). So the values that the mapping has beyond them (log entry 18) are not read. -/
def sourceAs (axis : Nat) (source : SourceKind) (index : Nat) : Prop :=
  match source with
  | .bodyLongitude | .bodyLatitude => index < Config.bodyCount
  | .follow => index < axis
  | .linear | .siteLatitude | .fixed => index = 0

/-- One axis, of this number, keeps its laws: travel fields (R99), offset (R101), source (R59, R60), position while driven (R79), speed
(R92), rest while OFF or FAULTED (R79, R97), HOMED (R97), fault record (R118), limits while TRACKING (R95), history and miss count
(R120, R125). -/
structure AxisSound (axis : Nat) (x : Axis) : Prop where
  travel : x.travel.Valid
  source : sourceAs axis x.target.source x.target.index
  offset : positionInRange x.travel.kind x.offset = true
  position : x.state ≠ .off → positionInRange x.travel.kind x.position = true
  speed : mag x.velocity ≤ x.travel.vmax
  atRest : x.state = .off ∨ x.state = .faulted → x.velocity = 0
  homed : homedAs x.state x.homed
  record : recordAs x.state x.causes
  tracked : x.state = .tracking → x.travel.inLimits x.position = true
  history : x.drive.history.length ≤ 4
  misses : x.drive.missCount ≤ 15

/-- Every axis keeps its laws. -/
def AxesSound (s : State) : Prop := ∀ a : Fin Config.axisCount, AxisSound a.val (s.axis a)

/-- A command history (R125): at most 4 entries with distinct cycle numbers, which run on by 1 and end with that of the last
emission. -/
def HistoryRuns (cycle : BitVec 8) (history : List (BitVec 8 × Int)) : Prop :=
  history.length ≤ 4 ∧ (history.map (·.1)).Nodup ∧
    history.map (·.1) = (List.range history.length).reverse.map fun k => cycle - BitVec.ofNat 8 k

/-- The records of the evaluation in flight until its emission: none before the shaping, and then one for each axis shaped, the live
axes below the one from which the shaping goes on, in ascending number (R80, R121). -/
def recordsAs (s : State) (ev : Evaluation) : Prop :=
  match ev.stage with
  | .bodies _ | .mapping _ => ev.records = []
  | .shaping n =>
      ev.records.map (·.axis) = allAxes.filter fun a => decide (a.val < n) && decide ((s.axis a).state ≠ .off)
  | .servicing => True

/-- Every axis has an unbroken command history, and an OFF axis an empty one (R125). -/
def HistoriesSound (s : State) : Prop :=
  (∀ a, HistoryRuns s.cycle (s.axis a).drive.history ∧ ((s.axis a).state = .off → (s.axis a).drive.history = [])) ∧
    ∀ ev, s.eval = some ev → recordsAs s ev

/-- No drive channel serves two axes (R100, R120). -/
def ChannelsDistinct (s : State) : Prop :=
  ∀ a b, (s.axis a).travel.node ≠ 0 → (s.axis a).travel.node = (s.axis b).travel.node →
    (s.axis a).travel.channel = (s.axis b).travel.channel → a = b

/-! ## Laws of the Cue Engine -/

/-- A channel armed has been defined, and in COUNTED mode has a firing left (R147); its cursor stands in its stretch of the list
(R145). -/
def ChannelSound (c : Channel) : Prop :=
  (c.armed = true → c.defined = true) ∧ (c.defined = true ∧ c.mode = .counted → 1 ≤ c.count) ∧
    (c.armed = true ∧ c.mode = .counted → 1 ≤ c.remaining) ∧ c.count ≤ 255 ∧ c.remaining ≤ 255 ∧
    c.listStart ≤ c.cursor ∧ c.cursor ≤ c.listEnd ∧ c.listEnd < Config.cueCount ∧ c.trigger.index < c.trigger.kind.indexes

/-- The held set holds each pair once, of the two kinds that a FEEDBACK record gives (R151). -/
def HeldSound (held : List Trigger) : Prop :=
  held.Nodup ∧ ∀ t ∈ held, (t.kind = .switchChange ∨ t.kind = .axisEvent) ∧ t.index < Config.axisCount

def CuesSound (s : State) : Prop := (∀ c, ChannelSound (s.channel c)) ∧ HeldSound s.cues.held

/-- An evaluation in its servicing has a trigger left: it completes with its last (R11). -/
def CompletesAtOnce (s : State) : Prop := ∀ ev, s.eval = some ev → ev.stage = .servicing → ev.triggers ≠ []

/-! ## The operands of requests as their bytes (section 11.3) -/

/-- A segment whose fields fit the segment record, with a start day that R25 accepts. -/
def Segment.Fits (g : Segment) : Prop :=
  (-dayLimit ≤ g.start ∧ g.start ≤ dayLimit) ∧ g.span < 65536 ∧ (0 ≤ g.c0 ∧ g.c0 < turn) ∧
    ∀ c ∈ [g.c1, g.c2, g.c3, g.b0, g.b1, g.b2], -halfTurn ≤ c ∧ c < halfTurn

/-- A descriptor that R26 accepts, with an angle and a fraction that fit its record. -/
def Descriptor.Fits (d : Descriptor) : Prop :=
  d.base ≤ 2047 ∧ d.length ≤ 2048 ∧ (0 ≤ d.phase ∧ d.phase < turn) ∧ (-16 ≤ d.turns ∧ d.turns ≤ 16) ∧
    (-halfTurn ≤ d.fraction ∧ d.fraction < halfTurn) ∧ (-quarterTurn ≤ d.latitude ∧ d.latitude ≤ quarterTurn) ∧
    (0 ≤ d.tolerance ∧ d.tolerance < halfTurn)

/-- An item whose identifier and value fit its nine bytes (R183). -/
def ItemFits (e : Nat × Int) : Prop := e.1 < 256 ∧ -9223372036854775808 ≤ e.2 ∧ e.2 ≤ 9223372036854775807

/-- The arguments of a LOAD_SEGMENTS. -/
def loadArgs (bank : Fin 2) (first : Nat) (gs : List Segment) : List Byte :=
  codeByte bank.val :: (natBytes 2 first ++ codeByte gs.length :: gs.flatMap encodeSegment)

/-- The arguments of a WRITE_BODY. -/
def bodyArgs (bank : Fin 2) (body : Fin Config.bodyCount) (d : Descriptor) : List Byte :=
  codeByte bank.val :: codeByte body.val :: encodeDescriptor d

/-- The arguments of a WRITE_AXIS. -/
def itemArgs (a : Fin Config.axisCount) (items : List (Nat × Int)) : List Byte :=
  codeByte a.val :: codeByte items.length :: items.flatMap fun e => encodeItem e.1 e.2

end Sys2Proof.Machine
end

