-- ==== Sys2Proof/Certificates/Slice0/Obligations.lean ====
section
/-! DEFINITION. What is claimed of the PB328, for the provers: one `def Obligations.<Name> : Prop` for each entry of
OBLIGATIONS.json. The terms are those of Safety.lean and of the machine. -/

open Sys2Proof Sys2Proof.Machine

/-! ## The queue of commands -/

/-- A step takes the command at the front of the queue and is its execution on the state with the queue's rest. The queue of commands
and its order are the model's choice: log entry 1. -/
def Obligations.StepTakesFrontCommand : Prop :=
  ∀ (c : Instr) (rest : List Instr) (s : State),
    step { s with pending := c :: rest } = exec c { s with pending := rest }

/-- Every command answers a next state, in every state, and leaves the queue of commands as it stands. That a command which is not due
answers the same state is log entry 2, and that a power-on reset keeps the queue is log entry 11: both are the model's choice. Not due
are a stage's command outside its stage, a shaping with no live axis left and an emission with one left to be shaped (R122), a servicing
with no occurrence that may be serviced, and the end of a frame at an idle transmitter. -/
def Obligations.EveryCommandAnswersNext : Prop :=
  (∀ (c : Instr) (s : State), ∃ t, exec c s = .next t ∧ t.pending = s.pending) ∧
  ∀ s : State,
    ((∀ ev b, s.eval = some ev → ev.stage ≠ .bodies b) → exec .bodyEvaluation s = .next s) ∧
    ((∀ ev a, s.eval = some ev → ev.stage ≠ .mapping a) → exec .targetMapping s = .next s) ∧
    ((∀ ev n (a : Fin Config.axisCount), s.eval = some ev → ev.stage = .shaping n → n ≤ a.val → (s.axis a).state = .off) →
      exec .axisShaping s = .next s) ∧
    ((∀ ev n, s.eval = some ev → ev.stage = .shaping n →
        ∃ a : Fin Config.axisCount, n ≤ a.val ∧ (s.axis a).state ≠ .off) →
      exec .setpointEmission s = .next s) ∧
    ((∀ ev, s.eval = some ev → ev.stage ≠ .servicing) → (s.eval = none → s.cues.held = []) →
      exec .occurrenceService s = .next s) ∧
    (s.ring.dSending = none → exec .dTransmitEnd s = .next s) ∧
    (s.ring.uSending = none → exec .uTransmitEnd s = .next s)

/-! ## The two resets -/

/-- R19: the Sky Clock after each reset. -/
def Obligations.ClockAfterResets : Prop :=
  ∀ s : State,
    (∃ t, exec .powerOnReset s = .next t ∧ t.eval = none ∧
      t.clock =
        { epoch := 0, rate := 0, target := 0, slew := 16, pattern := 1, pendingSet := none, setSinceIssue := false,
          prevEpoch := 0, evalCount := 0, watchDay := 0, watchEnabled := false, cadence := .unarmed, cadenceTimer := none,
          localGenerator := none, cadenceTimeout := 10000, localPeriod := 1000 }) ∧
    (∀ r rest, s.mgmt.requests = r :: rest → r.code = 22 → r.args = [] →
      (s.eval ≠ none → exec .softReset s = .next s) ∧
      (s.eval = none → ∃ t, exec .softReset s = .next t ∧ t.eval = none ∧ t.notices = [] ∧
        t.clock =
          { epoch := s.clock.epoch, rate := 0, target := 0, slew := s.clock.slew, pattern := 1, pendingSet := none,
            setSinceIssue := false, prevEpoch := s.clock.epoch, evalCount := 0, watchDay := s.clock.watchDay,
            watchEnabled := false, cadence := .unarmed, cadenceTimer := none, localGenerator := none,
            cadenceTimeout := s.clock.cadenceTimeout, localPeriod := s.clock.localPeriod }))

/-- R37, R56: the Ephemeris Store and the Body Evaluator after each reset, with the records of zeros that power-on leaves. -/
def Obligations.StoreAndBodiesAfterResets : Prop :=
  Segment.zero = { start := 0, span := 0, c0 := 0, c1 := 0, c2 := 0, c3 := 0, b0 := 0, b1 := 0, b2 := 0 } ∧
  Descriptor.zero =
    { enabled := false, base := 0, length := 0, phase := 0, turns := 0, fraction := 0, latitude := 0, tolerance := 0 } ∧
  ∀ s : State,
    (∃ t, exec .powerOnReset s = .next t ∧ t.store.active = 0 ∧ t.store.swap = .idle ∧
      (∀ b, t.store.sealed b = false) ∧ (∀ b slot, (t.bank b).segment slot = Segment.zero) ∧
      (∀ b body, (t.bank b).descriptor body = Descriptor.zero) ∧
      ∀ body, t.body body = { segment := none, coverage := .unknown, longitude := 0, latitude := 0, clamped := false }) ∧
    (∀ r rest, s.mgmt.requests = r :: rest → r.code = 22 → r.args = [] →
      (s.eval ≠ none → exec .softReset s = .next s) ∧
      (s.eval = none → ∃ t, exec .softReset s = .next t ∧ t.store.active = s.store.active ∧ t.store.swap = .idle ∧
        (∀ b, t.store.sealed b = false) ∧ (∀ b, t.bank b = s.bank b) ∧
        ∀ body, t.body body =
          { segment := none, coverage := .unknown, longitude := (s.body body).longitude, latitude := (s.body body).latitude,
            clamped := false }))

/-- R77, R96, R119, R138, R144 and the power-on values of R99: an axis, the Site Record and the cycle number after each reset. -/
def Obligations.AxesAfterResets : Prop :=
  ∀ (s : State) (a : Fin Config.axisCount),
    (∃ t, exec .powerOnReset s = .next t ∧ t.site = { latitude := 0, longitude := 0, changed := false } ∧ t.cycle = 0 ∧
      t.axis a =
        { travel :=
            { kind := .continuous, softLow := -2 ^ 31, softHigh := 2 ^ 31 - 1, wind := 1, vmax := 2 ^ 20, amax := 2 ^ 12,
              stopDecel := 2 ^ 14, homeMode := .search, homeVelocity := 2 ^ 16, homePosition := 0, homeSpan := 2 ^ 33,
              node := 0, channel := 0, feLimit := 2 ^ 24, missLimit := 4,
              switchMask := { home := false, low := false, high := false } },
          offset := 0,
          target :=
            { source := .fixed, index := 0, scale := 65536, offset := 0, phase := 0, turns := 0, fraction := 0,
              siteFlag := false, watchA := { value := 0, enabled := false, next := none },
              watchB := { value := 0, enabled := false, next := none } },
          position := 0, velocity := 0, softStop := false, state := .off, homed := false, seekStart := 0, seekTravel := 0,
          causes := [], prevTarget := 0, lastTarget := 0, feedforward := 0, targetClamped := false, suppress := false,
          drive :=
            { history := [], answerPending := false, missCount := 0, actual := none, faultBit := false, followError := none,
              live := none, reported := { home := false, low := false, high := false } } }) ∧
    (∀ r rest, s.mgmt.requests = r :: rest → r.code = 22 → r.args = [] →
      (s.eval ≠ none → exec .softReset s = .next s) ∧
      (s.eval = none → ∃ t, exec .softReset s = .next t ∧ t.cycle = s.cycle ∧
        t.site = { latitude := s.site.latitude, longitude := s.site.longitude, changed := false } ∧
        t.axis a =
          { s.axis a with
            target :=
              { (s.axis a).target with
                watchA := { value := (s.axis a).target.watchA.value, enabled := false, next := none },
                watchB := { value := (s.axis a).target.watchB.value, enabled := false, next := none } },
            velocity := 0, softStop := false, state := .off, homed := false, causes := [], targetClamped := false,
            suppress := true,
            drive :=
              { history := [], answerPending := false, missCount := 0, actual := none, faultBit := false,
                followError := none, live := none, reported := (s.axis a).drive.reported } }))

/-- R157: the Cue Engine after each reset. -/
def Obligations.CuesAfterResets : Prop :=
  ∀ (s : State) (c : Fin Config.channelCount),
    (∃ t, exec .powerOnReset s = .next t ∧ t.cues.held = [] ∧ (∀ i, t.cueEntry i = .none) ∧
      t.channel c =
        { armed := false, defined := false, trigger := { kind := .watchA, index := 0 }, mode := .continuous, count := 0,
          remaining := 0, listStart := 0, listEnd := 0, cursor := 0, advance := false }) ∧
    (∀ r rest, s.mgmt.requests = r :: rest → r.code = 22 → r.args = [] →
      (s.eval ≠ none → exec .softReset s = .next s) ∧
      (s.eval = none → ∃ t, exec .softReset s = .next t ∧ t.cues.held = [] ∧ (∀ i, t.cueEntry i = s.cueEntry i) ∧
        t.channel c = { s.channel c with armed := false, cursor := (s.channel c).listStart, remaining := 0 }))

/-- R171, R172: the Ring Interface and the Management Unit after each reset. The soft reset's own REPLY waits alone in the Reply Queue,
or is already being sent where the U transmitter was idle; so does a SETPOINT frame that waited for an idle D transmitter. While that
REPLY waits its mark is set (log entry 12), so that no notice is offered; where it is already being sent, the mark is clear. -/
def Obligations.PortsAfterResets : Prop :=
  ∀ s : State,
    (∃ t, exec .powerOnReset s = .next t ∧ t.notices = [] ∧
      t.ring =
        { downstream := [], upstream := [], errorsU := 0, errorsD := 0, setpoints := [], dSending := none, uSending := none } ∧
      t.mgmt = { freeCredits := 8, requests := [], replies := [], mode := .setup, resetReply := false }) ∧
    (∀ r rest, s.mgmt.requests = r :: rest → r.code = 22 → r.args = [] → s.eval = none →
      ∃ t, exec .softReset s = .next t ∧ t.notices = [] ∧ t.ring.downstream = [] ∧ t.ring.upstream = [] ∧
        t.ring.errorsU = s.ring.errorsU ∧ t.ring.errorsD = s.ring.errorsD ∧ t.mgmt.requests = [] ∧ t.mgmt.mode = .setup ∧
        (match s.ring.uSending with
          | none =>
              t.ring.uSending = some (.reply (replyFrame { tag := r.tag, code := 22, result := .ok, content := [] })) ∧
                t.mgmt.replies = [] ∧ t.mgmt.freeCredits = 7 ∧ t.mgmt.resetReply = false
          | some (.reply f) =>
              t.ring.uSending = some (.reply f) ∧ t.mgmt.freeCredits = 6 ∧ t.mgmt.resetReply = true ∧
                t.mgmt.replies = [{ tag := r.tag, code := 22, result := .ok, content := [] }]
          | some u =>
              t.ring.uSending = some u ∧ t.mgmt.freeCredits = 7 ∧ t.mgmt.resetReply = true ∧
                t.mgmt.replies = [{ tag := r.tag, code := 22, result := .ok, content := [] }]) ∧
        (match s.ring.dSending, s.ring.setpoints with
          | none, f :: later => t.ring.dSending = some (.setpoint f) ∧ t.ring.setpoints = later
          | sending, waiting => t.ring.dSending = sending ∧ t.ring.setpoints = waiting))

/-! ## The Sky Clock -/

/-- R3, R15 to R17: cadence loss; and what a sync does before it is taken, whether the generator produces it or a SYNC frame brings
it. A timer's command that is not due changes nothing: log entry 2. That an external SYNC in LOCAL raises CADENCE before the sync's own
notices is log entry 25. -/
def Obligations.CadenceAndSyncs : Prop :=
  ∀ s : State,
    (s.clock.cadence = .watching →
      exec .cadenceLoss s =
        .next (State.settle
          { s with
            clock :=
              { s.clock with
                cadence := .localPaced, cadenceTimer := none, localGenerator := some s.clock.localPeriod, target := 0 },
            notices := raiseInto .cadence 0 (.cadence false) s.notices })) ∧
    (s.clock.cadence ≠ .watching → exec .cadenceLoss s = .next s) ∧
    (s.clock.cadence = .localPaced →
      exec .localSync s =
        .next (takeSync { s with clock := { s.clock with localGenerator := some s.clock.localPeriod } }).settle) ∧
    (s.clock.cadence ≠ .localPaced → exec .localSync s = .next s) ∧
    ∀ f, Checked f → frameNode f = 0 → frameKind f = 1 →
      exec (.uFrameReceived f) s =
        .next (takeSync
          { s with
            clock :=
              { s.clock with
                cadence := .watching, cadenceTimer := some s.clock.cadenceTimeout, localGenerator := none },
            notices :=
              if s.clock.cadence = .localPaced then raiseInto .cadence 0 (.cadence true) s.notices else s.notices }).settle

/-- R4: a sync with an epoch set pending, and all that it changes before the evaluation is issued or the overrun recorded. -/
def Obligations.SyncAppliesPendingSet : Prop :=
  ∀ (s : State) (e : Int), s.clock.pendingSet = some e →
    applySync s =
      { s with clock := { s.clock with epoch := e, pattern := 1, pendingSet := none, setSinceIssue := true } } ∧
    (takeSync s).clock.epoch = e ∧ (takeSync s).clock.pattern = 1 ∧ (takeSync s).clock.pendingSet = none ∧
      (takeSync s).clock.rate = s.clock.rate ∧ (takeSync s).clock.target = s.clock.target ∧
      (s.eval ≠ none → (takeSync s).clock.setSinceIssue = true) ∧
      (s.eval = none → (takeSync s).clock.setSinceIssue = false ∧
        ∃ ev, (takeSync s).eval = some ev ∧ ev.epoch = e ∧ ev.epochSet = true)

/-- R5, and the advance of R6 by the stepped rate: a sync with no epoch set pending, within the limits of the epoch, and all that it
changes before the evaluation is issued or the overrun recorded. -/
def Obligations.SyncStepsRateAndEpoch : Prop :=
  ∀ (s : State) (q : Int), s.clock.pendingSet = none →
    (q =
      if mag (s.clock.target - s.clock.rate) ≤ s.clock.slew then s.clock.target
      else if s.clock.target > s.clock.rate then s.clock.rate + s.clock.slew
      else s.clock.rate - s.clock.slew) →
    epochMin ≤ s.clock.epoch + epochAdvance s.clock.pattern q → s.clock.epoch + epochAdvance s.clock.pattern q ≤ epochMax →
    applySync s =
      { s with
        clock :=
          { s.clock with
            rate := q, epoch := s.clock.epoch + epochAdvance s.clock.pattern q, pattern := nextPattern s.clock.pattern } } ∧
    (takeSync s).clock.rate = q ∧ (takeSync s).clock.epoch = s.clock.epoch + epochAdvance s.clock.pattern q ∧
      (takeSync s).clock.target = s.clock.target ∧ (takeSync s).clock.slew = s.clock.slew

/-- R6: the advance at pattern position k, the place that follows k, and the sum over sixteen syncs at one rate, which is q. -/
def Obligations.AdvanceFollowsPattern : Prop :=
  (∀ (k : Nat) (q : Int), 1 ≤ k → k ≤ 16 →
    epochAdvance k q =
      q / 16 + if (k : Int) * (q - 16 * (q / 16)) / 16 > ((k : Int) - 1) * (q - 16 * (q / 16)) / 16 then 1 else 0) ∧
  (∀ s : State, s.clock.pendingSet = none → 1 ≤ s.clock.pattern → s.clock.pattern ≤ 16 →
    (takeSync s).clock.pattern = if s.clock.pattern = 16 then 1 else s.clock.pattern + 1) ∧
  (∀ k : Nat, 1 ≤ k → k ≤ 16 → nextPattern k = if k = 16 then 1 else k + 1) ∧
  ∀ q : Int, ((List.range' 1 16).map fun k => epochAdvance k q).sum = q

/-- R7: an advance past a limit of the epoch, by the rate that R5 gives. -/
def Obligations.EpochLimitStopsSky : Prop :=
  (∀ q qt slew : Int,
    rateStep q qt slew = if mag (qt - q) ≤ slew then qt else if qt > q then q + slew else q - slew) ∧
  ∀ s : State, s.clock.pendingSet = none →
    let q := rateStep s.clock.rate s.clock.target s.clock.slew
    let e := s.clock.epoch + epochAdvance s.clock.pattern q
    (e > epochMax →
      applySync s =
        { s with
          clock := { s.clock with epoch := epochMax, rate := 0, target := 0, pattern := nextPattern s.clock.pattern },
          notices := raiseInto .epochLimit 0 (.epochLimit true) s.notices }) ∧
    (e < epochMin →
      applySync s =
        { s with
          clock := { s.clock with epoch := epochMin, rate := 0, target := 0, pattern := nextPattern s.clock.pattern },
          notices := raiseInto .epochLimit 0 (.epochLimit false) s.notices })

/-- R10, R12, R13, R33 to R35: a sync taken with no evaluation in flight issues one; taken with one in flight, it is an overrun. -/
def Obligations.SyncIssuesOrOverruns : Prop :=
  ∀ (s : State),
    let u := applySync s
    let due := swapDue u.store.swap u.clock.epoch
    let w := u.clock.watchDay * 2 ^ 32
    takeSync s =
        { s with
          clock := (takeSync s).clock, store := (takeSync s).store, eval := (takeSync s).eval,
          notices := (takeSync s).notices } ∧
    (∀ ev, s.eval = some ev → takeSync s = { u with notices := raiseInto .overrun 0 (.overrun ev.number) u.notices } ∧
      (takeSync s).eval = some ev ∧ (takeSync s).clock.evalCount = s.clock.evalCount ∧
      (takeSync s).clock.prevEpoch = s.clock.prevEpoch) ∧
    (s.eval = none →
      (takeSync s).clock =
        { u.clock with evalCount := s.clock.evalCount + 1, setSinceIssue := false, prevEpoch := u.clock.epoch } ∧
      (takeSync s).store = (if due then { u.store with active := u.store.shadow, swap := .idle } else u.store) ∧
      (takeSync s).notices =
        (if due then raiseInto .bankSwap 0 (.bankSwap u.store.shadow (s.clock.evalCount + 1)) u.notices else u.notices) ∧
      ∃ ev, (takeSync s).eval = some ev ∧ ev.number = s.clock.evalCount + 1 ∧ ev.epoch = u.clock.epoch ∧
        ev.prevEpoch = s.clock.prevEpoch ∧ ev.epochSet = u.clock.setSinceIssue ∧ ev.swapped = due ∧ ev.stage = .bodies 0 ∧
        ev.records = [] ∧ ev.suppressed = [] ∧
        ev.triggers =
          (if due then [{ kind := .bankSwap, index := 0 }] else []) ++
          (if u.clock.watchEnabled = true ∧ u.clock.setSinceIssue = false ∧
              ((u.clock.epoch > s.clock.prevEpoch ∧ s.clock.prevEpoch < w ∧ w ≤ u.clock.epoch) ∨
                (u.clock.epoch < s.clock.prevEpoch ∧ u.clock.epoch ≤ w ∧ w < s.clock.prevEpoch))
            then [{ kind := .epochWatch, index := 0 }] else []))

/-! ## Body evaluation -/

/-- R39, R48 to R55: one body of the evaluation in flight. The evaluation is of the body's descriptor in the active bank; the change
tests follow the table of R50; a change between adjacent segments is tested for a seam, whose SEAM notice names the coordinate of the
larger magnitude, the longitude where they are equal; nothing else changes. -/
def Obligations.BodyIsEvaluated : Prop :=
  ∀ (s : State) (ev : Evaluation) (b : Fin Config.bodyCount), s.eval = some ev → ev.stage = .bodies b →
    let bank := s.store.activeBank
    let d := bank.descriptor b
    let before := s.body b
    let found := coveringPosition bank d (dayOf ev.epoch)
    let seamTested (i j : Nat) : List Notice :=
      let early := bank.segment (d.base + min i j)
      let late := bank.segment (d.base + max i j)
      let lon := (late.c0 - (early.c0 + early.c1 + early.c2 + early.c3) + 2 ^ 31) % 2 ^ 32 - 2 ^ 31
      let lat := late.b0 - (early.b0 + early.b1 + early.b2)
      if (j = i + 1 ∨ i = j + 1) ∧ late.start = early.start + early.span ∧ (mag lon > d.tolerance ∨ mag lat > d.tolerance) then
        raiseInto .seam b.val (if mag lat > mag lon then .seam true lat else .seam false lon) s.notices
      else s.notices
    ∃ u : State, exec .bodyEvaluation s = .next u.settle ∧
      u.body b =
        (if d.enabled then evaluateBody bank d ev.epoch found
          else { segment := none, coverage := .unknown, longitude := before.longitude, latitude := before.latitude,
                 clamped := false }) ∧
      (∀ c, c ≠ b → u.body c = s.body c) ∧
      u.eval = some
        { ev with
          stage := (if h : b.val + 1 < 12 then .bodies ⟨b.val + 1, h⟩ else .mapping 0),
          triggers := ev.triggers ++
            if d.enabled = false ∨ ev.swapped = true then []
            else
              match before.coverage, before.segment, found with
              | .covered, some i, some j => if i = j then [] else [{ kind := .segmentChange, index := b.val }]
              | .covered, _, none => [{ kind := .coverageChange, index := b.val }]
              | .uncovered, _, some _ => [{ kind := .coverageChange, index := b.val }]
              | _, _, _ => [] } ∧
      u.notices =
        (if d.enabled = false ∨ ev.swapped = true then s.notices
          else
            match before.coverage, before.segment, found with
            | .covered, some i, some j => if i = j then s.notices else seamTested i j
            | .covered, _, none => raiseInto .coverage b.val (.coverage .uncovered) s.notices
            | .uncovered, _, some _ => raiseInto .coverage b.val (.coverage .covered) s.notices
            | _, _, _ => s.notices) ∧
      u = { s with bodies := u.bodies, eval := u.eval, notices := u.notices }

/-- R43: the normalised time of an epoch within a segment that covers its day. -/
def Obligations.NormalisedTimeOfSegment : Prop :=
  ∀ (g : Segment) (e : Int), g.covers (e / 2 ^ 32) = true →
    normalisedTime g e = ((e / 2 ^ 32 - g.start) * 2 ^ 32 + e % 2 ^ 32) / (g.span : Int) ∧
      0 ≤ normalisedTime g e ∧ normalisedTime g e ≤ 2 ^ 32 - 1 ∧
      (e = g.start * 2 ^ 32 → normalisedTime g e = 0) ∧
      (e = (g.start + g.span) * 2 ^ 32 - 1 → normalisedTime g e = 2 ^ 32 - 1)

/-- R44 to R47: the record of a body from its covering segment, and from its fallback. -/
def Obligations.BodyValues : Prop :=
  ∀ (b : Bank) (d : Descriptor) (e : Int),
    (∀ i,
      let g := b.segment (d.base + i)
      let u := normalisedTime g e
      let a := g.b0 + (g.b1 + g.b2 * u / 2 ^ 32) * u / 2 ^ 32
      evaluateBody b d e (some i) =
        { segment := some i, coverage := .covered,
          longitude := (g.c0 + (g.c1 + (g.c2 + g.c3 * u / 2 ^ 32) * u / 2 ^ 32) * u / 2 ^ 32) % 2 ^ 32,
          latitude := (if a < -2 ^ 30 then -2 ^ 30 else if a > 2 ^ 30 then 2 ^ 30 else a),
          clamped := decide (a < -2 ^ 30 ∨ a > 2 ^ 30) }) ∧
    evaluateBody b d e none =
      { segment := none, coverage := .uncovered,
        longitude := (d.phase + d.turns * (e % 2 ^ 32) + d.fraction * e / 2 ^ 32) % 2 ^ 32, latitude := d.latitude,
        clamped := false }

/-- R24, R40, R41: in a bank that has passed validation, at most one segment of an enabled body covers a day, and the lookup finds
it from the day and the bank alone. Which days a segment covers, and the day of an epoch (00_scope 1.5.4). -/
def Obligations.LookupFindsTheOneSegment : Prop :=
  (∀ (g : Segment) (day : Int), g.covers day = true ↔ g.start ≤ day ∧ day < g.start + g.span) ∧
  (∀ e : Int, dayOf e = e / 2 ^ 32) ∧
  ∀ (b : Bank) (body : Fin Config.bodyCount) (day : Int),
    let d := b.descriptor body
    bankFailure b = none → d.enabled = true →
    (∀ i j, i < d.length → j < d.length → (b.segment (d.base + i)).covers day = true →
      (b.segment (d.base + j)).covers day = true → i = j) ∧
    ∀ i, coveringPosition b d day = some i ↔ i < d.length ∧ (b.segment (d.base + i)).covers day = true

/-! ## Axis targets -/

/-- R62, R72 to R74: one axis of the evaluation in flight is mapped, and nothing else changes but the evaluation and, with the last
axis, the site-change flag. -/
def Obligations.AxisIsMapped : Prop :=
  ∀ (s : State) (ev : Evaluation) (a : Fin Config.axisCount), s.eval = some ev → ev.stage = .mapping a →
    let x := s.axis a
    let th := axisTarget s x ev.epoch
    let quiet := suppressedIn s ev x
    ∃ u : State, exec .targetMapping s = .next u.settle ∧ u.axis a = mapAxis s ev x ∧
      u.axis a =
        { x with
          lastTarget := th, prevTarget := th, feedforward := if quiet then 0 else feedforwardOf x th,
          targetClamped := targetClamps x.travel (unclampedTarget s x ev.epoch), suppress := false } ∧
      (∀ b, b ≠ a → u.axis b = s.axis b) ∧
      u.site = { s.site with changed := s.site.changed && decide (a.val + 1 < 24) } ∧
      u.eval = some
        { ev with
          stage := (if h : a.val + 1 < 24 then .mapping ⟨a.val + 1, h⟩ else .shaping 0),
          suppressed := if quiet then a :: ev.suppressed else ev.suppressed } ∧
      u = { s with axes := u.axes, site := u.site, eval := u.eval }

/-- R62 to R68: the source value of each source kind, and the target formed from it by the kind of the axis. -/
def Obligations.TargetFollowsSourceAndKind : Prop :=
  (∀ (s : State) (ev : Evaluation) (x : Axis),
    let v := sourceValue s x.target ev.epoch
    let read := match x.travel.kind with
      | .bounded => wrap v
      | .continuous | .wound => v % 2 ^ 32
    let g := if x.target.source = .fixed then 0 else x.target.scale * read / 2 ^ 16
    let y := mapAxis s ev x
    (x.travel.kind ≠ .bounded →
      y.lastTarget = ((x.target.offset.toNat : Int) + g) % 2 ^ 32 ∧ y.targetClamped = false) ∧
    (x.travel.kind = .bounded →
      let free := x.target.offset.toInt + g
      y.lastTarget =
        (if free < x.travel.softLow then x.travel.softLow
          else if free > x.travel.softHigh then x.travel.softHigh else free) ∧
      (y.targetClamped = true ↔ free < x.travel.softLow ∨ free > x.travel.softHigh))) ∧
  (∀ (s : State) (t : Target) (e : Int),
    (∀ b : Fin Config.bodyCount, t.index = b.val →
      (t.source = .bodyLongitude → sourceValue s t e = (s.body b).longitude) ∧
      (t.source = .bodyLatitude → sourceValue s t e = (s.body b).latitude)) ∧
    (t.source = .linear →
      let angle := (t.phase + t.turns * (e % 2 ^ 32) + t.fraction * e / 2 ^ 32) % 2 ^ 32
      sourceValue s t e = if t.siteFlag then (angle + s.site.longitude) % 2 ^ 32 else angle) ∧
    (t.source = .siteLatitude → sourceValue s t e = s.site.latitude) ∧
    ∀ a : Fin Config.axisCount, t.source = .follow → t.index = a.val → sourceValue s t e = (s.axis a).lastTarget)

/-- R71, R73: the feedforward of a mapped axis, and when it is suppressed. -/
def Obligations.FeedforwardOfMappedAxis : Prop :=
  ∀ (s : State) (ev : Evaluation) (x : Axis),
    let y := mapAxis s ev x
    let moved := match x.travel.kind with
      | .bounded => y.lastTarget - x.prevTarget
      | .continuous | .wound => wrap (y.lastTarget - x.prevTarget)
    let quiet := x.suppress = true ∨ ev.epochSet = true ∨ ev.swapped = true ∨ s.site.changed = true ∨
      (x.target.source = .follow ∧ ∃ a ∈ ev.suppressed, a.val = x.target.index)
    (suppressedIn s ev x = true ↔ quiet) ∧ (quiet → y.feedforward = 0) ∧
    (¬quiet →
      y.feedforward =
        if moved < -x.travel.vmax then -x.travel.vmax else if moved > x.travel.vmax then x.travel.vmax else moved)

/-- R69, R70: the extended target of a WOUND axis lies within the wind, shows the angle, and is the one the steps choose. -/
def Obligations.ExtendedTargetStaysInWind : Prop :=
  ∀ (wind p th : Int), 1 ≤ wind → 0 ≤ th → th < 2 ^ 32 →
    let lw := wind * 2 ^ 32
    let t0 := p + wrap (th - p % 2 ^ 32)
    let t1 := if t0 > lw then t0 - 2 ^ 32 else if t0 < -lw then t0 + 2 ^ 32 else t0
    let t := extendedTarget lw p th
    (-lw ≤ t ∧ t ≤ lw) ∧ t % 2 ^ 32 = th ∧
      (-lw ≤ p → p ≤ lw → t = t1) ∧
      (-lw ≤ t1 → t1 ≤ lw → t = t1) ∧
      (p > lw → t1 > lw ∨ t1 < -lw →
        t = (if th = 0 then lw else lw - 2 ^ 32 + th) ∧ ∀ y, y ≤ lw → y % 2 ^ 32 = th → y ≤ t) ∧
      (p < -lw → t1 > lw ∨ t1 < -lw → t = -lw + th ∧ ∀ y, -lw ≤ y → y % 2 ^ 32 = th → t ≤ y)

/-! ## Motion shaping -/

/-- R80, R83, R91, R111, R114, R115, R121: one live axis of the evaluation in flight is shaped. Its motion, the changes of state at the
end of the shaping, its record and its triggers; every other axis and the rest of the part stay. The passing over of OFF axes within
the one command is log entry 23, and that the AXIS raise carries the O then standing, whether homed or abandoned, is log entry 13. -/
def Obligations.AxisIsShaped : Prop :=
  ∀ (s : State) (ev : Evaluation) (n : Nat) (a : Fin Config.axisCount),
    s.eval = some ev → ev.stage = .shaping n → n ≤ a.val → (s.axis a).state ≠ .off →
    (∀ b : Fin Config.axisCount, n ≤ b.val → b.val < a.val → (s.axis b).state = .off) →
    let x := s.axis a
    let m := shapeMotion x
    let reduced (y : Int) : Int := (y + 2 ^ 47) % 2 ^ 48 - 2 ^ 47
    let position := if x.travel.kind = .continuous then m.position else reduced m.position
    let settled := x.state = .homing .settle ∧ m.velocity = 0
    let abandoned := x.state = .homing .abandon ∧ m.velocity = 0
    let lost := x.state = .homing .seek ∧ mag (x.seekTravel + m.velocity) > x.travel.homeSpan
    ∃ u : State, exec .axisShaping s = .next u.settle ∧
      u.axis a =
        { x with
          position := position, velocity := m.velocity, softStop := m.stopped,
          target := reloadWatches x.target (watchFires ev x m x.target.watchB),
          seekTravel := if x.state = .homing .seek then x.seekTravel + m.velocity else x.seekTravel,
          state :=
            if x.state = .halting ∧ m.velocity = 0 then .faulted
            else if settled then .holding
            else if abandoned then .unhomed
            else if lost then .halting
            else x.state,
          homed := if settled then true else x.homed, causes := if lost then [.homeNotFound] else x.causes } ∧
      (∀ b, b ≠ a → u.axis b = s.axis b) ∧
      u.notices =
        (if settled then raiseInto .axis a.val (.axis false x.offset) s.notices
          else if abandoned then raiseInto .axis a.val (.axis true x.offset) s.notices
          else if lost then raiseInto .fault a.val (.fault .homeNotFound) s.notices
          else s.notices) ∧
      u.eval = some
        { ev with
          stage := .shaping (a.val + 1),
          triggers := ev.triggers ++
            ((if watchFires ev x m x.target.watchA then [{ kind := .watchA, index := a.val }] else []) ++
              (if watchFires ev x m x.target.watchB then [{ kind := .watchB, index := a.val }] else []) ++
              (if settled ∨ abandoned ∨ lost then [{ kind := .axisEvent, index := a.val }] else [])),
          records := ev.records ++
            [{ axis := a, node := x.travel.node, channel := x.travel.channel,
               position :=
                if x.travel.kind = .continuous then (position + x.offset) % 2 ^ 32 else reduced (position + x.offset),
               velocity := m.velocity, hold := decide (x.state ≠ .tracking ∧ x.state ≠ .homing .seek) }] } ∧
      u = { s with axes := u.axes, eval := u.eval, notices := u.notices }

/-- R85, R86: the correction term and the new velocity of the tracking law, with r the greatest integer whose square does not exceed
2·amax·|e|. -/
def Obligations.TrackingLaw : Prop :=
  ∀ (x : Axis) (r : Nat), x.state = .tracking → x.travel.Valid →
    let e := trackingError x
    let vmax := x.travel.vmax
    let amax := x.travel.amax
    ((r : Int) * r ≤ 2 * amax * mag e ∧ 2 * amax * mag e < ((r : Int) + 1) * (r + 1)) →
    let size := min vmax (min (r : Int) (mag e))
    let c := if e < 0 then -size else if e > 0 then size else 0
    let wanted := clamp (-vmax) vmax (x.feedforward + c)
    lawVelocity x = x.velocity + clamp (-amax) amax (wanted - x.velocity)

/-- R81, R84, R87 to R90: the tracking error by kind, the hold, halting and seek laws, and the position step, with the wrap, the
magnitude and the clamp that they use (00_scope 1.5.3, 1.5.6). R95: a CONTINUOUS axis takes the new velocity of its law, whichever it
is, and no stop acts on it. -/
def Obligations.OtherLawsAndStep : Prop :=
  (∀ x : Axis,
    (x.state = .unhomed ∨ x.state = .homing .settle ∨ x.state = .homing .abandon ∨ x.state = .holding ∨ x.state = .faulted →
      lawVelocity x = x.velocity + clamp (-x.travel.amax) x.travel.amax (-x.velocity)) ∧
    (x.state = .halting →
      lawVelocity x = x.velocity + clamp (-x.travel.stopDecel) x.travel.stopDecel (-x.velocity)) ∧
    (x.state = .homing .seek →
      lawVelocity x = x.velocity + clamp (-x.travel.amax) x.travel.amax (x.travel.homeVelocity - x.velocity)) ∧
    (x.travel.kind = .continuous → trackingError x = wrap (x.lastTarget - x.position) ∧
      shapeMotion x = { position := (x.position + lawVelocity x) % 2 ^ 32, velocity := lawVelocity x, stopped := false }) ∧
    (x.travel.kind = .bounded → trackingError x = x.lastTarget - x.position) ∧
    (x.travel.kind = .wound →
      trackingError x = extendedTarget (x.travel.wind * 2 ^ 32) x.position x.lastTarget - x.position) ∧
    (x.travel.kind ≠ .continuous → (shapeMotion x).stopped = false →
      (shapeMotion x).position = x.position + lawVelocity x)) ∧
  (∀ y : Int, -2 ^ 31 ≤ wrap y ∧ wrap y ≤ 2 ^ 31 - 1 ∧ wrap y % 2 ^ 32 = y % 2 ^ 32) ∧
  (∀ y : Int, mag y = if y < 0 then -y else y) ∧
  ∀ lo hi y : Int, clamp lo hi y = if y < lo then lo else if y > hi then hi else y

/-- R92: speed and change of velocity in one shaping. -/
def Obligations.ShapingKeepsSpeedLimits : Prop :=
  ∀ x : Axis, x.travel.Valid → mag x.velocity ≤ x.travel.vmax → x.state ≠ .off →
    mag (shapeMotion x).velocity ≤ x.travel.vmax ∧
      ((shapeMotion x).stopped = true → (shapeMotion x).velocity = 0) ∧
      ((shapeMotion x).stopped = false →
        mag ((shapeMotion x).velocity - x.velocity) ≤ if x.state = .halting then x.travel.stopDecel else x.travel.amax)

/-- R93, R94: when a soft or wind limit stop acts, and what it leaves. The limits are the soft limits of a BOUNDED axis and the wind
of a WOUND one. -/
def Obligations.LimitStops : Prop :=
  ∀ (x : Axis) (lo hi : Int),
    ((x.travel.kind = .bounded ∧ lo = x.travel.softLow ∧ hi = x.travel.softHigh) ∨
      (x.travel.kind = .wound ∧ lo = -(x.travel.wind * 2 ^ 32) ∧ hi = x.travel.wind * 2 ^ 32)) →
    let v := lawVelocity x
    let p := x.position + v
    let subject := x.homed = true ∧ (x.state = .tracking ∨ x.state = .holding)
    (subject → p > hi → v > 0 →
      shapeMotion x = { position := if x.position > hi then x.position else hi, velocity := 0, stopped := true }) ∧
    (subject → p < lo → v < 0 →
      shapeMotion x = { position := if x.position < lo then x.position else lo, velocity := 0, stopped := true }) ∧
    (¬(subject ∧ ((p > hi ∧ v > 0) ∨ (p < lo ∧ v < 0))) →
      shapeMotion x = { position := p, velocity := v, stopped := false })

/-- R141, R142: which watches a shaping crosses, and the reload that a crossing of watch B makes. -/
def Obligations.WatchCrossings : Prop :=
  (∀ w p q v : Int,
    (watchCrossed .bounded w p q v = true ↔ (p < w ∧ w ≤ q) ∨ (q ≤ w ∧ w < p)) ∧
    watchCrossed .wound w p q v = watchCrossed .bounded w p q v ∧
    (mag v < 2 ^ 31 →
      (watchCrossed .continuous w p q v = true ↔
        ∃ d : Int, 1 ≤ d ∧ d ≤ mag v ∧ w % 2 ^ 32 = (if v > 0 then p + d else p - d) % 2 ^ 32))) ∧
  (∀ t : Target, reloadWatches t false = t ∧
    (reloadWatches t true).watchA =
      (match t.watchA.next with
        | some v => { value := v, enabled := true, next := none }
        | none => t.watchA) ∧
    (reloadWatches t true).watchB =
      (match t.watchB.next with
        | some v => { value := v, enabled := true, next := none }
        | none => t.watchB)) ∧
  ∀ (ev : Evaluation) (x : Axis) (m : Motion) (w : Watch),
    watchFires ev x m w = true ↔
      w.enabled = true ∧ ev.epochSet = false ∧ watchCrossed x.travel.kind w.value x.position m.position m.velocity = true

/-! ## The drive line -/

/-- R122, R123, R11, R125, R162, section 11.2: the emission that ends the shaping. The new cycle number; the tests of R123 on the axes of
the records in their order, whose axes, notices and triggers the emission leaves; the frame of the records, byte for byte, handed over
(the oldest of four waiting frames making room); the axes without a record left as they stand; and the evaluation complete where no
trigger stands in its list. That the emission is due when no live axis remains to be shaped is log entry 23. -/
def Obligations.SetpointIsEmitted : Prop :=
  ∀ (s : State) (ev : Evaluation) (n : Nat), s.eval = some ev → ev.stage = .shaping n →
    (∀ a : Fin Config.axisCount, n ≤ a.val → (s.axis a).state = .off) →
    let cycle := s.cycle + 1
    let tested := ev.records.foldl (emitAxis cycle) { s with cycle := cycle }
    let frame :=
      encodeFrame 5 31
        (cycle :: codeByte ev.records.length :: ev.records.flatMap fun r =>
          [codeByte r.node, codeByte r.channel, if r.hold then 1 else 0] ++ intBytes 6 r.position ++ intBytes 4 r.velocity)
    ∃ u : State, exec .setpointEmission s = .next u.settle ∧ u.cycle = cycle ∧
      u.ring =
        { s.ring with
          setpoints :=
            (if s.ring.setpoints.length < 4 then s.ring.setpoints else s.ring.setpoints.tail) ++ [frame] } ∧
      u.axes = tested.axes ∧ u.notices = tested.notices ∧
      (∃ ts, tested.eval = some { ev with triggers := ev.triggers ++ ts } ∧ (∀ t ∈ ts, t.kind = .axisEvent) ∧
        u.eval =
          if ev.triggers ++ ts = [] then none else some { ev with stage := .servicing, triggers := ev.triggers ++ ts }) ∧
      (∀ a, (∀ r ∈ ev.records, r.axis ≠ a) → u.axis a = s.axis a) ∧
      (∀ a, (u.axis a).position = (s.axis a).position ∧ (u.axis a).velocity = (s.axis a).velocity ∧
        (u.axis a).offset = (s.axis a).offset ∧ (u.axis a).travel = (s.axis a).travel ∧
        (u.axis a).target = (s.axis a).target) ∧
      u = { s with axes := u.axes, eval := u.eval, cycle := u.cycle, ring := u.ring, notices := u.notices }

/-- R116, R117, R123, R125, R131, R132: the tests of one axis of the frame: the causes they find in order, the entry or the causes
added, the notices and the trigger these make, the miss count and the history. An axis in HALTING or FAULTED is tested like one in a
live state, and its misses and its history go on. An OFF axis has no record. -/
def Obligations.EmissionTestsOfAxis : Prop :=
  ∀ (s : State) (r : Setpoint) (cycle : BitVec 8),
    let x := s.axis r.axis
    let misses := if x.drive.answerPending then min 15 (x.drive.missCount + 1) else x.drive.missCount
    let lost := x.drive.answerPending = true ∧ x.travel.missLimit ≤ misses
    let hard := ∃ i, x.drive.live = some i ∧ ((i.low = true ∧ r.velocity < 0) ∨ (i.high = true ∧ r.velocity > 0))
    let drive : Drive :=
      { x.drive with
        answerPending := true, missCount := misses,
        history :=
          (if x.drive.history.length < 4 then x.drive.history else x.drive.history.tail) ++ [(cycle, r.position)] }
    x.state ≠ .off →
    ∀ found : List Cause,
      (hard → lost → found = [.hardLimit, .feedbackLost]) → (hard → ¬lost → found = [.hardLimit]) →
      (¬hard → lost → found = [.feedbackLost]) → (¬hard → ¬lost → found = []) →
      let added := found.filter fun c => decide (c ∉ x.causes)
      (x.state ≠ .halting → x.state ≠ .faulted →
        (emitAxis cycle s r).axis r.axis =
          { x with
            state := if found = [] then x.state else .halting, homed := if lost then false else x.homed,
            causes := if found = [] then x.causes else found, drive := drive } ∧
        (emitAxis cycle s r).notices = found.foldl (fun ns c => raiseInto .fault r.axis.val (.fault c) ns) s.notices ∧
        (emitAxis cycle s r).eval =
          (s.eval.map fun e =>
            { e with
              triggers := e.triggers ++ if found = [] then [] else [{ kind := .axisEvent, index := r.axis.val }] })) ∧
      (x.state = .halting ∨ x.state = .faulted →
        (emitAxis cycle s r).axis r.axis =
          { x with
            homed := if .feedbackLost ∈ added then false else x.homed, causes := x.causes ++ added, drive := drive } ∧
        (emitAxis cycle s r).notices = added.foldl (fun ns c => raiseInto .fault r.axis.val (.fault c) ns) s.notices ∧
        (emitAxis cycle s r).eval = s.eval) ∧
      ∀ a, a ≠ r.axis → (emitAxis cycle s r).axis a = s.axis a

/-- R160, R161, R180: a checked frame from the D port, by its node and kind, and the upstream buffer with room and full. That the Drive
Supervisor takes a FEEDBACK frame before it is placed upstream is log entry 22. -/
def Obligations.DFrameDispatched : Prop :=
  ∀ (s : State) (f : Frame), Checked f →
    let discarded (t : State) (reason : LinkReason) : State :=
      let n := min 65535 (t.ring.errorsD + 1)
      { t with ring := { t.ring with errorsD := n }, notices := raiseInto .linkD 0 (.link reason n) t.notices }
    let placed (t : State) : State :=
      if t.ring.upstream.length < 4 then { t with ring := { t.ring with upstream := t.ring.upstream ++ [f] } }
      else discarded t .overflow
    (frameNode f = 0 ∨ frameNode f > 31 → exec (.dFrameReceived f) s = .next (discarded s .address).settle) ∧
    (1 ≤ frameNode f → frameNode f ≤ 30 → frameKind f = 6 →
      exec (.dFrameReceived f) s = .next (placed (takeFeedback s (frameNode f) (framePayload f))).settle) ∧
    (1 ≤ frameNode f → frameNode f ≤ 31 → ¬(frameKind f = 6 ∧ frameNode f ≤ 30) →
      exec (.dFrameReceived f) s = .next (placed s).settle)

/-- R126, R151, R181: which FEEDBACK frames and which of their records the Drive Supervisor takes. None is taken of a frame whose count
is 0 or above 4 or whose length disagrees with it. The occurrences of a record reach the Cue Engine in their order when its steps are
done: log entry 5. -/
def Obligations.FeedbackRecordsAreMapped : Prop :=
  ∀ (s : State) (node : Nat) (cycle : BitVec 8) (payload : List Byte),
    let count := (payload.getD 1 0).toNat
    (decodeFeedback payload = none ↔ count = 0 ∨ count > 4 ∨ payload.length ≠ 2 + 8 * count) ∧
    (∀ rs, decodeFeedback payload = some (cycle, rs) → payload.head? = some cycle ∧ rs.length = count) ∧
    (decodeFeedback payload = none → takeFeedback s node payload = s) ∧
    (∀ rs, decodeFeedback payload = some (cycle, rs) → takeFeedback s node payload = rs.foldl (takeRecord node cycle) s) ∧
    ∀ r : FeedbackRecord,
      (node = 0 ∨ r.channel > 3 ∨
          (∀ a, ¬((s.axis a).travel.node = node ∧ (s.axis a).travel.channel = r.channel)) → takeRecord node cycle s r = s) ∧
      ∀ a, ChannelsDistinct s → node ≠ 0 → r.channel ≤ 3 → (s.axis a).travel.node = node →
        (s.axis a).travel.channel = r.channel →
        takeRecord node cycle s r = (handleRecord s a cycle r).2.foldl handOccurrence (handleRecord s a cycle r).1

/-- R113, R116, R117, R126, R129 to R131, R133, R134: the fault causes that a record gives, in the order of its steps, with the state,
the notices and the triggers they make; and when SWITCH_CHANGE is produced and the SWITCH notice raised. An axis in HALTING or FAULTED
adds the causes it has not seen, without a trigger; an OFF axis is refreshed and takes no cause. -/
def Obligations.FeedbackRecordIsJudged : Prop :=
  ∀ (s : State) (a : Fin Config.axisCount) (cycle : BitVec 8) (r : FeedbackRecord),
    let x := s.axis a
    let y := (handleRecord s a cycle r).1.axis a
    let image : Switches :=
      { home := r.switches.home && !x.travel.switchMask.home, low := r.switches.low && !x.travel.switchMask.low,
        high := r.switches.high && !x.travel.switchMask.high }
    let changed := ∃ i, x.drive.live = some i ∧ i ≠ image
    let edge := x.state = .homing .seek ∧ image.home = true ∧ ∃ i, x.drive.live = some i ∧ i.home = false
    let ahead := x.state = .homing .seek ∧ ¬edge ∧
      ((x.travel.homeVelocity < 0 ∧ image.low = true) ∨ (x.travel.homeVelocity > 0 ∧ image.high = true))
    let fresh := (x.drive.history.find? fun e => decide (e.1 = cycle)).map (·.2)
    let far := ∃ c, fresh = some c ∧
      mag (if x.travel.kind = .continuous then wrap (c - r.actual % 2 ^ 32) else c - r.actual) > x.travel.feLimit
    let hard := (image.low = true ∧ x.velocity < 0) ∨ (image.high = true ∧ x.velocity > 0)
    let switched :=
      if s.standing .switch a.val then changed else (changed ∨ x.drive.live = none) ∧ image ≠ x.drive.reported
    ∀ (first second third fourth : List Cause) (notices : List Notice),
      (ahead → first = [.homeLimit]) → (¬ahead → first = []) → (far → second = [.following]) → (¬far → second = []) →
      third = (if r.fault then [.driveFault] else []) → (hard → fourth = [.hardLimit]) → (¬hard → fourth = []) →
      (switched → notices = raiseInto .switch a.val .switch s.notices) → (¬switched → notices = s.notices) →
      let found := first ++ second ++ third ++ fourth
      let added := found.filter fun c => decide (c ∉ x.causes)
      let change : List Trigger := if changed then [{ kind := .switchChange, index := a.val }] else []
      (x.state ≠ .off → x.state ≠ .halting → x.state ≠ .faulted →
        (found = [] → y.state = (if edge then .homing .settle else x.state) ∧ y.causes = x.causes ∧ y.homed = x.homed) ∧
        (found ≠ [] → y.state = .halting ∧ y.causes = found ∧ y.homed = (x.homed && !r.fault)) ∧
        (handleRecord s a cycle r).1.notices = found.foldl (fun ns c => raiseInto .fault a.val (.fault c) ns) notices ∧
        (handleRecord s a cycle r).2 =
          change ++ if found = [] then [] else [{ kind := .axisEvent, index := a.val }]) ∧
      (x.state = .halting ∨ x.state = .faulted →
        y.state = x.state ∧ y.causes = x.causes ++ added ∧ y.homed = (x.homed && !decide (.driveFault ∈ added)) ∧
        (handleRecord s a cycle r).1.notices = added.foldl (fun ns c => raiseInto .fault a.val (.fault c) ns) notices ∧
        (handleRecord s a cycle r).2 = change) ∧
      (x.state = .off →
        y.state = .off ∧ y.causes = x.causes ∧ y.homed = x.homed ∧ (handleRecord s a cycle r).1.notices = notices ∧
        (handleRecord s a cycle r).2 = change)

/-- R112, R126 to R130, R133: what a record leaves of its axis, whatever faults it raises: its drive record, its position and offset,
which a home edge in SEEK moves, and the rest as it stood. An OFF axis keeps its match and its misses. -/
def Obligations.FeedbackRecordTaken : Prop :=
  ∀ (s : State) (a : Fin Config.axisCount) (cycle : BitVec 8) (r : FeedbackRecord),
    let x := s.axis a
    let y := (handleRecord s a cycle r).1.axis a
    let fresh := (x.drive.history.find? fun e => decide (e.1 = cycle)).map (·.2)
    let edge := x.state = .homing .seek ∧ x.travel.switchMask.home = false ∧ r.switches.home = true ∧
      ∃ b, x.drive.live = some b ∧ b.home = false
    y.drive.actual = some r.actual ∧ y.drive.faultBit = r.fault ∧
      y.drive.live = some
        { home := r.switches.home && !x.travel.switchMask.home, low := r.switches.low && !x.travel.switchMask.low,
          high := r.switches.high && !x.travel.switchMask.high } ∧
      y.drive.history = x.drive.history ∧ y.drive.reported = x.drive.reported ∧
      (x.state = .off ∨ fresh = none →
        y.drive.missCount = x.drive.missCount ∧ y.drive.answerPending = x.drive.answerPending ∧
          y.drive.followError = x.drive.followError) ∧
      (∀ c, x.state ≠ .off → fresh = some c →
        y.drive.missCount = 0 ∧ y.drive.answerPending = false ∧
          y.drive.followError =
            some (if x.travel.kind = .continuous then wrap (c - r.actual % 2 ^ 32) else c - r.actual)) ∧
      (x.state = .off → y.state = .off) ∧
      (x.state ≠ .off → r.fault = true → (y.state = .halting ∨ y.state = .faulted) ∧ .driveFault ∈ y.causes) ∧
      (edge → y.position = (captureHome x r.actual).position ∧ y.offset = (captureHome x r.actual).offset) ∧
      (¬edge → y.position = x.position ∧ y.offset = x.offset) ∧
      y = { x with
        position := y.position, offset := y.offset, state := y.state, homed := y.homed, causes := y.causes, drive := y.drive } ∧
      (∀ b, b ≠ a → (handleRecord s a cycle r).1.axis b = s.axis b) ∧
      (handleRecord s a cycle r).1 =
        { s with axes := (handleRecord s a cycle r).1.axes, notices := (handleRecord s a cycle r).1.notices }

/-- R112, R91, R101, R121: the home edge capture. The offset ties A to home_position, P moves by the change of offset, and the drive
position C stays. C is P + O mod 2^32 for a CONTINUOUS axis; for the others it is P + O reduced into -2^47..2^47 - 1 by multiples of
2^48, as the extended-range wrap reduces P. -/
def Obligations.HomeEdgeKeepsDrivePosition : Prop :=
  (∀ (x : Axis) (a : Int),
    let y := captureHome x a
    drivePosition x.travel.kind y.position y.offset = drivePosition x.travel.kind x.position x.offset ∧
      y.offset =
        (if x.travel.kind = .continuous then (a - x.travel.homePosition) % 2 ^ 32
          else reduceExt (a - x.travel.homePosition)) ∧
      y.position =
        (if x.travel.kind = .continuous then (x.position + x.offset - y.offset) % 2 ^ 32
          else reduceExt (x.position + x.offset - y.offset)) ∧
      y = { x with position := y.position, offset := y.offset, state := .homing .settle }) ∧
  (∀ (kind : AxisKind) (p o : Int),
    drivePosition kind p o = (if kind = .continuous then (p + o) % 2 ^ 32 else reduceExt (p + o)) ∧
      wrapPosition kind p = (if kind = .continuous then p else reduceExt p)) ∧
  ∀ y : Int, -2 ^ 47 ≤ reduceExt y ∧ reduceExt y ≤ 2 ^ 47 - 1 ∧ reduceExt y % 2 ^ 48 = y % 2 ^ 48

/-- R116, R117: a fault cause taken for an axis, in a live state, in HALTING or FAULTED, and in OFF; and the writing of one axis,
which leaves the others. -/
def Obligations.FaultCauseTaken : Prop :=
  (∀ (s : State) (a : Fin Config.axisCount) (y : Axis),
    (∀ b, (s.setAxis a y).axis b = if b = a then y else s.axis b) ∧
      s.setAxis a y = { s with axes := (s.setAxis a y).axes }) ∧
  ∀ (s : State) (a : Fin Config.axisCount) (c : Cause),
    let x := s.axis a
    let homed := x.homed && !(decide (c = .driveFault) || decide (c = .feedbackLost))
    (x.state = .off → s.raiseFault a c = (s, [])) ∧
    (x.state = .halting ∨ x.state = .faulted →
      (c ∈ x.causes → s.raiseFault a c = (s, [])) ∧
      (c ∉ x.causes →
        s.raiseFault a c =
          ({ s.setAxis a { x with causes := x.causes ++ [c], homed := homed } with
              notices := raiseInto .fault a.val (.fault c) s.notices }, []))) ∧
    (x.state ≠ .off → x.state ≠ .halting → x.state ≠ .faulted →
      s.raiseFault a c =
        ({ s.setAxis a { x with state := .halting, causes := [c], homed := homed } with
            notices := raiseInto .fault a.val (.fault c) s.notices },
          [{ kind := .axisEvent, index := a.val }]))

/-! ## The Cue Engine -/

/-- R11, R150 to R152: one occurrence is serviced, the next trigger of the evaluation being completed or the oldest held one, and the
evaluation completes with its last trigger. The servicing fires, in ascending number, the channels that are armed and match at its
start, each that is still armed when its turn comes. An occurrence of a FEEDBACK record is serviced at once, held or absorbed. -/
def Obligations.OccurrenceIsServiced : Prop :=
  ∀ (s : State) (t : Trigger) (rest : List Trigger),
    (∀ ev, s.eval = some ev → ev.stage = .servicing → ev.triggers = t :: rest →
      ∃ u : State, exec .occurrenceService s = .next u.settle ∧
        u.eval = (if rest = [] then none else some { ev with triggers := rest }) ∧
        u = { service { s with eval := some { ev with triggers := rest } } t with eval := u.eval }) ∧
    (s.eval = none → s.cues.held = t :: rest →
      exec .occurrenceService s = .next (service { s with cues := { s.cues with held := rest } } t).settle) ∧
    service s t =
      ((List.finRange 8).filter fun c => (s.channel c).armed && decide ((s.channel c).trigger = t)).foldl
        (fun u c => if (u.channel c).armed then fire u c else u) s ∧
    (∀ u, u = service s t →
      u = { s with clock := u.clock, axes := u.axes, cues := u.cues, notices := u.notices } ∧
        u.cues.list = s.cues.list ∧ u.cues.held = s.cues.held) ∧
    ((∀ c, (s.channel c).armed = true → (s.channel c).trigger ≠ t) → service s t = s) ∧
    (s.eval = none → s.cues.held = [] → handOccurrence s t = service s t) ∧
    (s.eval ≠ none ∨ s.cues.held ≠ [] →
      handOccurrence s t =
        if t ∈ s.cues.held then s else { s with cues := { s.cues with held := s.cues.held ++ [t] } })

/-- R153, R154, R156: a firing of a channel executes the action of the entry at its cursor, or raises CUE with "action refused", the
entry and the action where it is refused. Then the channel steps, and CUE is raised with "exhausted" where the step exhausts it. A
firing whose action arms or disarms the channel itself makes no step. The writing of one channel leaves the others. -/
def Obligations.FiringStepsChannel : Prop :=
  (∀ (s : State) (c : Fin Config.channelCount) (y : Channel),
    (∀ d, (s.setChannel c y).channel d = if d = c then y else s.channel d) ∧
      s.setChannel c y = { s with cues := { s.cues with channels := (s.setChannel c y).cues.channels } }) ∧
  ∀ (s : State) (c : Fin Config.channelCount),
    let x := s.channel c
    let action := s.cueEntry x.cursor
    let executed : State :=
      match runAction s c action with
      | some t => t
      | none => { s with notices := raiseInto .cue c.val (.cueRefused x.cursor action.code) s.notices }
    let stepped : Channel :=
      { x with
        cursor := if x.advance then (if x.cursor = x.listEnd then x.listStart else x.cursor + 1) else x.cursor,
        remaining := if x.mode = .counted then x.remaining - 1 else x.remaining,
        armed := if x.mode = .counted ∧ x.remaining - 1 = 0 then false else x.armed }
    (action ≠ .channelArm c → action ≠ .channelDisarm c →
      (fire s c).channel c = stepped ∧
      fire s c =
        { executed.setChannel c stepped with
          notices :=
            if x.mode = .counted ∧ x.remaining - 1 = 0 then raiseInto .cue c.val .cueExhausted executed.notices
            else executed.notices }) ∧
    (action = .channelArm c ∨ action = .channelDisarm c → fire s c = executed) ∧
    (action = .channelDisarm c → (fire s c).channel c = { x with armed := false }) ∧
    (action = .channelArm c → x.defined = true →
      (fire s c).channel c =
        { x with
          armed := true, cursor := x.listStart, remaining := if x.mode = .counted then x.count else x.remaining })

/-- R155, R143, R61, R9, R14, R104, R108, R109, R147: what each cue action does when it is executed by a firing of channel c, and when it
is refused. AXIS_STATE commands the axis as TRACK and STOP do, and CHANNEL_ARM arms as ARM_CHANNEL does. No entry holds an AXIS_SOURCE
whose kind byte names none of the six sources, since WRITE_CUES refuses it (R184; log entry 9). The index of a source that uses none
is recorded as 0: log entry 17. -/
def Obligations.CueActionsTakeEffect : Prop :=
  ∀ (s : State) (c : Fin Config.channelCount) (a : Fin Config.axisCount),
    let x := s.axis a
    let outside := (x.travel.kind = .bounded ∧ (x.position < x.travel.softLow ∨ x.position > x.travel.softHigh)) ∨
      (x.travel.kind = .wound ∧ (x.position < -(x.travel.wind * 2 ^ 32) ∨ x.position > x.travel.wind * 2 ^ 32))
    runAction s c .none = some s ∧
      (∀ v, runAction s c (.axisOffset a v) =
        some (s.setAxis a { x with target := { x.target with offset := v }, suppress := true })) ∧
      (∀ v, runAction s c (.axisScale a v) =
        some (s.setAxis a { x with target := { x.target with scale := v }, suppress := true })) ∧
      (∀ (k : SourceKind) (i : Nat), runAction s c (.axisSource a k i) =
        if ((k = .bodyLongitude ∨ k = .bodyLatitude) ∧ i ≥ 12) ∨ (k = .follow ∧ i ≥ a.val) then none
        else
          some (s.setAxis a
            { x with
              target :=
                { x.target with
                  source := k,
                  index := if k = .linear ∨ k = .siteLatitude ∨ k = .fixed then 0 else i },
              suppress := true })) ∧
      ((x.state = .tracking → runAction s c (.axisState a false) = some s) ∧
        (x.state = .holding → outside → runAction s c (.axisState a false) = none) ∧
        (x.state = .holding → ¬outside →
          runAction s c (.axisState a false) = some (s.setAxis a { x with state := .tracking, suppress := true })) ∧
        (x.state ≠ .tracking → x.state ≠ .holding → runAction s c (.axisState a false) = none)) ∧
      ((x.state = .tracking → runAction s c (.axisState a true) = some (s.setAxis a { x with state := .holding })) ∧
        (x.state = .homing .seek →
          runAction s c (.axisState a true) = some (s.setAxis a { x with state := .homing .abandon })) ∧
        (x.state ≠ .tracking → x.state ≠ .homing .seek → runAction s c (.axisState a true) = some s)) ∧
      (∀ qt slew, runAction s c (.clockRate qt slew) =
        if mag qt ≤ 2 ^ 44 - 1 ∧ 1 ≤ slew ∧ slew ≤ 2 ^ 44 - 1 then
          some { s with clock := { s.clock with target := qt, slew := slew } }
        else none) ∧
      (∀ day enable, runAction s c (.epochWatchSet day enable) =
        if -5000000 ≤ day ∧ day ≤ 5000000 then
          some { s with clock := { s.clock with watchDay := day, watchEnabled := enable } }
        else none) ∧
      (∀ v, positionInRange x.travel.kind v = true →
        runAction s c (.watchLoad a false false v) =
            some (s.setAxis a { x with target := { x.target with watchA := { x.target.watchA with value := v, enabled := true } } }) ∧
          runAction s c (.watchLoad a true false v) =
            some (s.setAxis a { x with target := { x.target with watchB := { x.target.watchB with value := v, enabled := true } } }) ∧
          runAction s c (.watchLoad a false true v) =
            some (s.setAxis a { x with target := { x.target with watchA := { x.target.watchA with next := some v } } }) ∧
          runAction s c (.watchLoad a true true v) =
            some (s.setAxis a { x with target := { x.target with watchB := { x.target.watchB with next := some v } } })) ∧
      (∀ b n v, positionInRange x.travel.kind v = false → runAction s c (.watchLoad a b n v) = none) ∧
      (∀ v, positionInRange x.travel.kind v = true ↔
        if x.travel.kind = .continuous then 0 ≤ v ∧ v ≤ 2 ^ 32 - 1 else -2 ^ 47 ≤ v ∧ v ≤ 2 ^ 47 - 1) ∧
      (∀ d, (s.channel d).defined = true → runAction s c (.channelArm d) =
        some (s.setChannel d
          { s.channel d with
            armed := true, cursor := (s.channel d).listStart,
            remaining := if (s.channel d).mode = .counted then (s.channel d).count else (s.channel d).remaining })) ∧
      (∀ d, (s.channel d).defined = false → runAction s c (.channelArm d) = none) ∧
      (∀ d, runAction s c (.channelDisarm d) = some (s.setChannel d { s.channel d with armed := false })) ∧
      ∀ code, runAction s c (.note code) = some { s with notices := raiseInto .cue c.val (.cueNote code) s.notices }

/-! ## The ports -/

/-- R159, R161, R180: a checked frame from the U port, by its node and kind, and the downstream buffer with room and full. -/
def Obligations.UFrameDispatched : Prop :=
  ∀ (s : State) (f : Frame), Checked f →
    let discarded (reason : LinkReason) : State :=
      let n := min 65535 (s.ring.errorsU + 1)
      { s with ring := { s.ring with errorsU := n }, notices := raiseInto .linkU 0 (.link reason n) s.notices }
    (frameNode f = 0 → frameKind f = 1 → exec (.uFrameReceived f) s = .next (externalSync s).settle) ∧
    (frameNode f = 0 → frameKind f = 2 → exec (.uFrameReceived f) s = .next (admitRequest s (framePayload f)).settle) ∧
    ((frameNode f = 0 ∧ frameKind f ≠ 1 ∧ frameKind f ≠ 2) ∨ frameNode f > 31 →
      exec (.uFrameReceived f) s = .next (discarded .address).settle) ∧
    (1 ≤ frameNode f → frameNode f ≤ 31 →
      (s.ring.downstream.length < 4 →
        exec (.uFrameReceived f) s =
          .next (State.settle { s with ring := { s.ring with downstream := s.ring.downstream ++ [f] } })) ∧
      (s.ring.downstream.length ≥ 4 → exec (.uFrameReceived f) s = .next (discarded .overflow).settle))

/-- R158, R180: a frame that fails its check or its length, at either port; which frames fail each; and the register that forms the
check. Where a frame fails both, the reason is one of the two: log entry 4, a free value. That a frame of fewer than 6 bytes fails its
length is log entry 21. -/
def Obligations.BadFramesAreDiscarded : Prop :=
  (∀ (s : State) (f : Frame) (port : Port),
    let i : Instr := match port with
      | .u => .uFrameReceived f
      | .d => .dFrameReceived f
    let after (reason : LinkReason) (s : State) : State := match port with
      | .u =>
          { s with
            ring := { s.ring with errorsU := min 65535 (s.ring.errorsU + 1) },
            notices := raiseInto .linkU 0 (.link reason (min 65535 (s.ring.errorsU + 1))) s.notices }
      | .d =>
          { s with
            ring := { s.ring with errorsD := min 65535 (s.ring.errorsD + 1) },
            notices := raiseInto .linkD 0 (.link reason (min 65535 (s.ring.errorsD + 1))) s.notices }
    (checkFails f = true → lengthFails f = false → exec i s = .next (after .check s).settle) ∧
    (checkFails f = false → lengthFails f = true → exec i s = .next (after .length s).settle) ∧
    (checkFails f = true → lengthFails f = true →
      ∃ reason, (reason = .check ∨ reason = .length) ∧
        exec i s = .next (after reason { s with freeCount := s.freeCount + 1 }).settle)) ∧
  (∀ f : Frame,
    let field := 256 * (f.getD 2 0).toNat + (f.getD 3 0).toNat
    lengthFails f = true ↔ f.length < 6 ∨ field > 1024 ∨ f.length ≠ 6 + field) ∧
  (∀ (covered : List Byte) (high low : Byte),
    checkFails (covered ++ [high, low]) = true ↔ (checkOf covered).toNat ≠ 256 * high.toNat + low.toNat) ∧
  checkOf [] = BitVec.allOnes 16 ∧
  ∀ (bs : List Byte) (b : Byte),
    checkOf (bs ++ [b]) =
      [7, 6, 5, 4, 3, 2, 1, 0].foldl
        (fun (register : BitVec 16) i =>
          if register.msb = b.getLsbD i then register <<< 1 else (register <<< 1) ^^^ BitVec.ofNat 16 4129)
        (checkOf bs)

/-- R164, R166: a REQUEST frame with a credit free, with none, and too short for a tag and a code. -/
def Obligations.RequestsAreAdmittedOrDropped : Prop :=
  ∀ (s : State) (f : Frame), Checked f → frameNode f = 0 → frameKind f = 2 →
    (∀ tag code args, framePayload f = tag :: code :: args →
      (∀ n, s.mgmt.freeCredits = n + 1 →
        exec (.uFrameReceived f) s =
          .next (State.settle
            { s with
              mgmt :=
                { s.mgmt with
                  freeCredits := n,
                  requests := s.mgmt.requests ++ [{ tag := tag, code := code, args := args }] } })) ∧
      (s.mgmt.freeCredits = 0 →
        exec (.uFrameReceived f) s =
          .next (State.settle { s with notices := raiseInto .requestDrop 0 (.requestDrop tag) s.notices }))) ∧
    ((framePayload f).length < 2 →
      let n := min 65535 (s.ring.errorsU + 1)
      exec (.uFrameReceived f) s =
        .next (State.settle
          { s with ring := { s.ring with errorsU := n }, notices := raiseInto .linkU 0 (.link .length n) s.notices }))

/-- R135, R162, R163, R175 to R177, section 11.4: the end of a frame at each transmitter, the credit of a REPLY, the choice of the next
frame, and what stands in a NOTICE and a REPLY frame. The D transmitter takes a SETPOINT frame before a forwarded one; the U transmitter
takes a forwarded frame, the earliest class A notice, a reply, the earliest class B notice. A notice leaves the set as its sending
begins; a SWITCH notice carries the live image and the reported image, and the reported image becomes the live one sent. While a
SOFT_RESET reply waits no notice is offered (R171; its mark is log entry 12). Either transmitter, if it is idle, chooses as the step
ends: log entry 3. -/
def Obligations.TransmittersChooseNext : Prop :=
  ∀ s : State,
    let first (classA : Bool) : Option Notice :=
      if s.mgmt.resetReply then none
      else s.notices.find? fun n => (decide (n.kind = .fault) || decide (n.kind = .cadence)) == classA
    let sends (n : Notice) (t : State) : Prop :=
      t.ring.uSending = some (.notice (s.frameOf n)) ∧
        t.notices = (s.notices.filter fun m => !(decide (m.kind = n.kind) && decide (m.index = n.index))) ∧
        ∀ a : Fin Config.axisCount, t.axis a =
          if n.kind = .switch ∧ n.index = a.val then
            { s.axis a with
              drive := { (s.axis a).drive with reported := (s.axis a).drive.live.getD (s.axis a).drive.reported } }
          else s.axis a
    let dTakes (t : State) : Prop :=
      (t.ring.dSending, t.ring.setpoints, t.ring.downstream) =
        (match s.ring.setpoints, s.ring.downstream with
          | f :: later, waiting => (some (.setpoint f), later, waiting)
          | [], f :: later => (some (.forwarded f), [], later)
          | [], [] => (none, [], []))
    let uTakes (t : State) : Prop :=
      match s.ring.upstream, first true, s.mgmt.replies, first false with
      | f :: later, _, _, _ =>
          t.ring.uSending = some (.forwarded f) ∧ t.ring.upstream = later ∧ t.mgmt.replies = s.mgmt.replies ∧
            t.mgmt.resetReply = s.mgmt.resetReply ∧ t.notices = s.notices ∧ t.axes = s.axes
      | [], some n, _, _ =>
          sends n t ∧ t.ring.upstream = [] ∧ t.mgmt.replies = s.mgmt.replies ∧ t.mgmt.resetReply = s.mgmt.resetReply
      | [], none, r :: later, _ =>
          t.ring.uSending = some (.reply (replyFrame r)) ∧ t.ring.upstream = [] ∧ t.mgmt.replies = later ∧
            t.mgmt.resetReply = false ∧ t.notices = s.notices ∧ t.axes = s.axes
      | [], none, [], some n =>
          sends n t ∧ t.ring.upstream = [] ∧ t.mgmt.replies = [] ∧ t.mgmt.resetReply = s.mgmt.resetReply
      | [], none, [], none =>
          t.ring.uSending = none ∧ t.ring.upstream = [] ∧ t.mgmt.replies = [] ∧ t.mgmt.resetReply = s.mgmt.resetReply ∧
            t.notices = s.notices ∧ t.axes = s.axes
    let dRests (t : State) : Prop :=
      t.ring.dSending = s.ring.dSending ∧ t.ring.setpoints = s.ring.setpoints ∧ t.ring.downstream = s.ring.downstream
    let uRests (t : State) : Prop :=
      t.ring.uSending = s.ring.uSending ∧ t.ring.upstream = s.ring.upstream ∧ t.mgmt.replies = s.mgmt.replies ∧
        t.mgmt.resetReply = s.mgmt.resetReply ∧ t.notices = s.notices ∧ t.axes = s.axes
    (s.ring.dSending ≠ none → ∃ t, exec .dTransmitEnd s = .next t ∧ LineOnly s t ∧ t.mgmt.requests = s.mgmt.requests ∧
      dTakes t ∧ (s.ring.uSending ≠ none → uRests t) ∧ (s.ring.uSending = none → uTakes t)) ∧
    (∀ sending, s.ring.uSending = some sending → ∃ t, exec .uTransmitEnd s = .next t ∧
      t.mgmt.freeCredits = s.mgmt.freeCredits + (match sending with | .reply _ => 1 | _ => 0) ∧
      t.mgmt.requests = s.mgmt.requests ∧ LineOnly { s with mgmt := { s.mgmt with freeCredits := t.mgmt.freeCredits } } t ∧
      uTakes t ∧ (s.ring.dSending ≠ none → dRests t) ∧ (s.ring.dSending = none → dTakes t)) ∧
    (LineOnly s s.settle ∧ s.settle.mgmt.requests = s.mgmt.requests ∧
      (s.ring.dSending ≠ none → dRests s.settle) ∧ (s.ring.dSending = none → dTakes s.settle) ∧
      (s.ring.uSending ≠ none → uRests s.settle) ∧ (s.ring.uSending = none → uTakes s.settle)) ∧
    (∀ (a : Fin Config.axisCount) (count : Nat),
      let d := (s.axis a).drive
      s.frameOf { kind := .switch, index := a.val, count := count, detail := .switch } =
        encodeFrame 4 0 [3, codeByte a.val, 1, codeByte count, codeByte (d.live.getD d.reported).bits, codeByte d.reported.bits]) ∧
    (∀ n : Notice, n.kind ≠ .switch → n.detail ≠ .switch →
      s.frameOf n =
        encodeFrame 4 0
          ([codeByte n.kind.code, codeByte n.index, if n.kind = .fault ∨ n.kind = .cadence then 0 else 1, codeByte n.count] ++
            match n.detail with
            | .fault c => [codeByte c.code]
            | .cadence restored => [flagByte restored]
            | .switch => []
            | .axis abandoned offset => flagByte abandoned :: intBytes 6 offset
            | .coverage c => [codeByte c.code]
            | .seam latitude size => flagByte latitude :: intBytes 6 size
            | .cueExhausted => [0, 0, 0]
            | .cueRefused entry action => [1, codeByte entry, codeByte action]
            | .cueNote code => [2, codeByte code, 0]
            | .overrun n => natBytes 4 n.toNat
            | .epochLimit upper => [flagByte upper]
            | .link reason counter => codeByte reason.code :: natBytes 2 counter
            | .requestDrop tag => [tag]
            | .bankSwap bank n => codeByte bank.val :: natBytes 4 n.toNat)) ∧
    ∀ r : Reply, replyFrame r = encodeFrame 3 0 (r.tag :: r.code :: codeByte r.result.code :: r.content)

/-! ## Requests -/

/-- R8, R9, R14, R18, R58, R184: the requests of the Sky Clock and SET_SITE, accepted on the operands their rules accept and refused
with RANGE on every other payload. -/
def Obligations.ClockAndSiteRequests : Prop :=
  ∀ (s : State) (r : Request) (rest : List Request), s.mgmt.requests = r :: rest →
    (r.code = 2 →
      (∀ e, epochMin ≤ e → e ≤ epochMax → r.args = intBytes 8 e →
        Answers .setEpoch s r { s with clock := { s.clock with pendingSet := some e } } .ok []) ∧
      ((∀ e, epochMin ≤ e → e ≤ epochMax → r.args ≠ intBytes 8 e) → Answers .setEpoch s r s .range [])) ∧
    (r.code = 3 →
      (∀ qt slew, mag qt ≤ 2 ^ 44 - 1 → 1 ≤ slew → slew ≤ 2 ^ 44 - 1 → r.args = intBytes 6 qt ++ intBytes 6 slew →
        Answers .setRate s r { s with clock := { s.clock with target := qt, slew := slew } } .ok []) ∧
      ((∀ qt slew, mag qt ≤ 2 ^ 44 - 1 → 1 ≤ slew → slew ≤ 2 ^ 44 - 1 → r.args ≠ intBytes 6 qt ++ intBytes 6 slew) →
        Answers .setRate s r s .range [])) ∧
    (r.code = 4 →
      (∀ day enable, -5000000 ≤ day → day ≤ 5000000 → r.args = intBytes 4 day ++ [flagByte enable] →
        Answers .setEpochWatch s r { s with clock := { s.clock with watchDay := day, watchEnabled := enable } } .ok []) ∧
      ((∀ day enable, -5000000 ≤ day → day ≤ 5000000 → r.args ≠ intBytes 4 day ++ [flagByte enable]) →
        Answers .setEpochWatch s r s .range [])) ∧
    (r.code = 5 →
      (∀ timeout period, 200 ≤ timeout → timeout ≤ 65535 → 200 ≤ period → period ≤ 65535 →
        r.args = natBytes 2 timeout ++ natBytes 2 period →
        Answers .setCadence s r { s with clock := { s.clock with cadenceTimeout := timeout, localPeriod := period } } .ok []) ∧
      ((∀ timeout period, 200 ≤ timeout → timeout ≤ 65535 → 200 ≤ period → period ≤ 65535 →
          r.args ≠ natBytes 2 timeout ++ natBytes 2 period) →
        Answers .setCadence s r s .range [])) ∧
    (r.code = 6 → s.eval = none →
      (∀ lat lon : Int, -2 ^ 30 ≤ lat → lat ≤ 2 ^ 30 → 0 ≤ lon → lon < 2 ^ 32 → r.args = intBytes 4 lat ++ intBytes 4 lon →
        Answers .setSite s r { s with site := { latitude := lat, longitude := lon, changed := true } } .ok r.args) ∧
      ((∀ lat lon : Int, -2 ^ 30 ≤ lat → lat ≤ 2 ^ 30 → 0 ≤ lon → lon < 2 ^ 32 → r.args ≠ intBytes 4 lat ++ intBytes 4 lon) →
        Answers .setSite s r s .range []))

/-- R27, R28, R76, R98, R136, R178, R179, R185: the four reads, their contents byte for byte, and the payloads they refuse.
READ_STATUS clears the counters that its selector names after it has read them; the others change nothing. R183: the items of each
group by their identifiers; that the offset is given as the kind reads it and an absent Next as -2^63 is log entry 14, and that P
(item 64) is given as it is held, also where the kind of an OFF axis became CONTINUOUS with P outside 0 to 2^32 - 1, is log entry 28:
the model's choice, where R79 makes P an angle and R100 leaves P as it stands. -/
def Obligations.ReadsAnswer : Prop :=
  (∀ (s : State) (r : Request) (rest : List Request), s.mgmt.requests = r :: rest →
    let c := s.clock
    (r.code = 1 →
      (∀ n, n ≤ 3 → r.args = [codeByte n] →
        Answers .readStatus s r
          { s with ring :=
            { s.ring with
              errorsU := if n = 1 ∨ n = 3 then 0 else s.ring.errorsU,
              errorsD := if n = 2 ∨ n = 3 then 0 else s.ring.errorsD } } .ok
          ([codeByte s.mgmt.mode.code] ++ natBytes 4 c.evalCount.toNat ++ [flagByte s.eval.isSome] ++
            ([codeByte c.cadence.code] ++ intBytes 8 c.epoch ++ intBytes 6 c.rate ++ intBytes 6 c.target ++ intBytes 6 c.slew ++
              [codeByte c.pattern, flagByte c.pendingSet.isSome] ++ intBytes 8 (c.pendingSet.getD 0) ++ intBytes 4 c.watchDay ++
              [flagByte c.watchEnabled]) ++
            ([codeByte s.store.active.val, codeByte s.store.swap.code] ++
              match s.store.swap with
              | .pendingEpoch day side => intBytes 4 day ++ [codeByte side.code]
              | _ => [0, 0, 0, 0, 0]) ++
            natBytes 2 s.ring.errorsU ++ natBytes 2 s.ring.errorsD ++
            [codeByte s.mgmt.freeCredits, codeByte s.mgmt.requests.length] ++
            [codeByte s.notices.length, codeByte (s.notices.countP fun n => decide (n.kind = .fault) || decide (n.kind = .cadence)),
              codeByte (s.notices.countP fun n => !(decide (n.kind = .fault) || decide (n.kind = .cadence)))] ++
            s.bodies.toList.flatMap fun x => [codeByte x.coverage.code, flagByte x.clamped])) ∧
      ((∀ n, n ≤ 3 → r.args ≠ [codeByte n]) → Answers .readStatus s r s .range [])) ∧
    (r.code = 7 → s.eval = none →
      (∀ (a : Fin Config.axisCount) (group : Nat) (ids : List Nat), r.args = [codeByte a.val, codeByte group] →
        (group = 0 ∧ ids = List.range' 1 17) ∨ (group = 1 ∧ ids = List.range' 32 14 ++ [82, 83]) ∨
          (group = 2 ∧ ids = List.range' 64 18 ++ [84, 85]) →
        Answers .readAxis s r s .ok
          ([codeByte a.val, codeByte group, codeByte ids.length] ++
            (ids.flatMap fun id => codeByte id :: intBytes 8 (axisItem (s.axis a) s.site id)) ++
            if group = 2 then
              codeByte (s.axis a).drive.history.length ::
                (s.axis a).drive.history.flatMap (fun e => e.1 :: intBytes 6 e.2) ++
                codeByte (s.axis a).causes.length :: (s.axis a).causes.map fun c => codeByte c.code
            else [])) ∧
      ((∀ (a : Fin Config.axisCount) (group : Nat), group ≤ 2 → r.args ≠ [codeByte a.val, codeByte group]) →
        Answers .readAxis s r s .range [])) ∧
    (r.code = 10 →
      (∀ (bank : Fin 2) (body : Fin Config.bodyCount), r.args = [codeByte bank.val, codeByte body.val] →
        Answers .readBody s r s .ok
          ([codeByte bank.val, codeByte body.val, codeByte s.store.active.val, flagByte (s.store.sealed bank)] ++
            encodeDescriptor ((s.bank bank).descriptor body) ++ natBytes 2 ((s.body body).segment.getD 65535) ++
            [codeByte (s.body body).coverage.code] ++ intBytes 4 (s.body body).longitude ++
            intBytes 4 (s.body body).latitude ++ [flagByte (s.body body).clamped])) ∧
      ((∀ (bank : Fin 2) (body : Fin Config.bodyCount), r.args ≠ [codeByte bank.val, codeByte body.val]) →
        Answers .readBody s r s .range [])) ∧
    (r.code = 13 →
      (∀ (bank : Fin 2) (first count : Nat), 1 ≤ count → count ≤ 28 → first + count ≤ 2048 →
        r.args = codeByte bank.val :: (natBytes 2 first ++ [codeByte count]) →
        Answers .readSegments s r s .ok
          (codeByte bank.val :: (natBytes 2 first ++
            [codeByte count, codeByte s.store.active.val, flagByte (s.store.sealed bank)] ++
            (List.range' first count).flatMap fun i => encodeSegment ((s.bank bank).segment i)))) ∧
      ((∀ (bank : Fin 2) (first count : Nat), 1 ≤ count → count ≤ 28 → first + count ≤ 2048 →
          r.args ≠ codeByte bank.val :: (natBytes 2 first ++ [codeByte count])) →
        Answers .readSegments s r s .range []))) ∧
  ∀ (x : Axis) (site : Site),
    let t := x.travel
    let g := x.target
    let d := x.drive
    let flag (b : Bool) : Int := if b then 1 else 0
    let orAbsent (v : Option Int) : Int := v.getD (-2 ^ 63)
    (List.range' 1 17).map (axisItem x site) =
        [(t.kind.code : Int), t.softLow, t.softHigh, t.wind, t.vmax, t.amax, t.stopDecel, (t.homeMode.code : Int), t.homeVelocity,
          t.homePosition, t.homeSpan, (t.node : Int), (t.channel : Int), t.feLimit, (t.missLimit : Int),
          (t.switchMask.bits : Int), x.offset] ∧
      (List.range' 32 14 ++ [82, 83]).map (axisItem x site) =
        [(g.source.code : Int), (g.index : Int), g.scale,
          (if t.kind = .bounded then g.offset.toInt else (g.offset.toNat : Int)), g.phase, g.turns, g.fraction,
          flag g.siteFlag, g.watchA.value, flag g.watchA.enabled, orAbsent g.watchA.next, g.watchB.value,
          flag g.watchB.enabled, orAbsent g.watchB.next, site.latitude, site.longitude] ∧
      (List.range' 64 18 ++ [84, 85]).map (axisItem x site) =
        [x.position, x.velocity, flag x.softStop, (x.state.code : Int), (x.state.phaseCode : Int), flag x.homed,
          (match x.causes with | [] => 0 | c :: _ => (c.code : Int)), x.lastTarget, x.feedforward, flag x.targetClamped,
          flag x.suppress, x.seekStart, x.seekTravel, flag d.answerPending, (d.missCount : Int), orAbsent d.actual,
          flag d.faultBit, orAbsent d.followError, orAbsent (d.live.map fun i => (i.bits : Int)), (d.reported.bits : Int)]

/-- R25, R26, R29, R32: LOAD_SEGMENTS and WRITE_BODY write whole records into an unsealed shadow bank, are refused with BANK for
the active bank and a sealed shadow, and with RANGE on every other payload. -/
def Obligations.StoreWrites : Prop :=
  ∀ (s : State) (r : Request) (rest : List Request), s.mgmt.requests = r :: rest →
    (r.code = 12 →
      (∀ (bank : Fin 2) (first : Nat) (gs : List Segment), gs ≠ [] → gs.length ≤ 28 → first + gs.length ≤ 2048 →
        (∀ g ∈ gs, g.Fits) → r.args = loadArgs bank first gs → Slots.wf Segment.zero (s.bank bank).slots = true →
        (bank = s.store.active ∨ s.store.swap ≠ .idle → Answers .loadSegments s r s .bank []) ∧
        (bank ≠ s.store.active → s.store.swap = .idle →
          ∃ u, Answers .loadSegments s r u .ok [] ∧
            (∀ slot, (u.bank bank).segment slot =
              if first ≤ slot ∧ slot < first + gs.length then gs.getD (slot - first) Segment.zero
              else (s.bank bank).segment slot) ∧
            (u.bank bank).descriptors = (s.bank bank).descriptors ∧ (∀ b, b ≠ bank → u.bank b = s.bank b) ∧
            u = { s with store := { s.store with banks := u.store.banks } })) ∧
      ((∀ (bank : Fin 2) (first : Nat) (gs : List Segment), gs ≠ [] → gs.length ≤ 28 → first + gs.length ≤ 2048 →
          (∀ g ∈ gs, g.Fits) → r.args ≠ loadArgs bank first gs) →
        Answers .loadSegments s r s .range [])) ∧
    (r.code = 11 →
      (∀ (bank : Fin 2) (body : Fin Config.bodyCount) (d : Descriptor), d.Fits → r.args = bodyArgs bank body d →
        (bank = s.store.active ∨ s.store.swap ≠ .idle → Answers .writeBody s r s .bank []) ∧
        (bank ≠ s.store.active → s.store.swap = .idle →
          ∃ u, Answers .writeBody s r u .ok [] ∧ (u.bank bank).descriptor body = d ∧
            (∀ b, b ≠ body → (u.bank bank).descriptor b = (s.bank bank).descriptor b) ∧
            (u.bank bank).slots = (s.bank bank).slots ∧ (∀ b, b ≠ bank → u.bank b = s.bank b) ∧
            u = { s with store := { s.store with banks := u.store.banks } })) ∧
      ((∀ (bank : Fin 2) (body : Fin Config.bodyCount) (d : Descriptor), d.Fits → r.args ≠ bodyArgs bank body d) →
        Answers .writeBody s r s .range []))

/-- R30, R31, R33, R34, R36: SWAP_BANKS and CANCEL_SWAP; what a bank must keep to pass validation; which failure a refusal names, that
of the lowest body that fails, the first in the order of WINDOW and then of SPAN, END and ORDER at each position; and when a pending
swap falls due. R20, R32, R35: the shadow, which SWAP_BANKS validates and a swap makes active, is the bank that is not active, and it
alone is sealed, while a swap is pending. -/
def Obligations.SwapRequests : Prop :=
  (∀ (s : State) (r : Request) (rest : List Request), s.mgmt.requests = r :: rest →
    (r.code = 14 →
      (∀ swap : SwapState,
        (r.args = [0] ∧ swap = .pendingNext) ∨
          (∃ day : Int, -5000000 ≤ day ∧ day ≤ 5000000 ∧ r.args = 1 :: intBytes 4 day ∧
            swap = .pendingEpoch day (if s.clock.epoch < day * 2 ^ 32 then .before else .after)) →
        (s.store.swap ≠ .idle → Answers .swapBanks s r s .state []) ∧
        (s.store.swap = .idle → bankFailure (s.bank s.store.shadow) = none →
          Answers .swapBanks s r { s with store := { s.store with swap := swap } } .ok []) ∧
        (∀ body check i, s.store.swap = .idle → bankFailure (s.bank s.store.shadow) = some (body, check, i) →
          Answers .swapBanks s r s .bank (codeByte body.val :: codeByte check.code :: natBytes 2 i))) ∧
      (r.args ≠ [0] → (∀ day : Int, -5000000 ≤ day → day ≤ 5000000 → r.args ≠ 1 :: intBytes 4 day) →
        Answers .swapBanks s r s .range [])) ∧
    (r.code = 15 →
      (r.args = [] → s.store.swap = .idle → Answers .cancelSwap s r s .state []) ∧
      (r.args = [] → s.store.swap ≠ .idle →
        Answers .cancelSwap s r { s with store := { s.store with swap := .idle } } .ok []) ∧
      (r.args ≠ [] → Answers .cancelSwap s r s .range []))) ∧
  (∀ t : Store,
    t.shadow ≠ t.active ∧ t.activeBank = t.banks.get t.active ∧
      ∀ b, t.sealed b = true ↔ b ≠ t.active ∧ t.swap ≠ .idle) ∧
  (∀ (s : State) (b : Fin 2), s.bank b = s.store.banks.get b) ∧
  (∀ b : Bank,
    bankFailure b = none ↔
      ∀ body, (b.descriptor body).enabled = true →
        let d := b.descriptor body
        d.base + d.length ≤ 2048 ∧
          ∀ i, i < d.length →
            let g := b.segment (d.base + i)
            1 ≤ g.span ∧ g.start + g.span ≤ 5000001 ∧
              (1 ≤ i → (b.segment (d.base + (i - 1))).start + (b.segment (d.base + (i - 1))).span ≤ g.start)) ∧
  (∀ (b : Bank) (body : Fin Config.bodyCount) (check : StoreCheck) (i : Nat),
    let keeps (k : Fin Config.bodyCount) (j : Nat) (c : StoreCheck) : Prop :=
      let d := b.descriptor k
      let g := b.segment (d.base + j)
      match c with
      | .window => d.base + d.length ≤ 2048
      | .span => 1 ≤ g.span
      | .finish => g.start + g.span ≤ 5000001
      | .order => 1 ≤ j → (b.segment (d.base + (j - 1))).start + (b.segment (d.base + (j - 1))).span ≤ g.start
    let keepsAll (k : Fin Config.bodyCount) (j : Nat) : Prop := keeps k j .span ∧ keeps k j .finish ∧ keeps k j .order
    bankFailure b = some (body, check, i) ↔
      (∀ k, k < body → (b.descriptor k).enabled = true →
        keeps k 0 .window ∧ ∀ j, j < (b.descriptor k).length → keepsAll k j) ∧
      (b.descriptor body).enabled = true ∧ ¬keeps body i check ∧
      (check = .window → i = 0) ∧
      (check ≠ .window →
        keeps body 0 .window ∧ i < (b.descriptor body).length ∧ (∀ j, j < i → keepsAll body j) ∧
          (check ≠ .span → keeps body i .span) ∧ (check = .order → keeps body i .finish))) ∧
  ∀ (day e : Int),
    swapDue .idle e = false ∧ swapDue .pendingNext e = true ∧
      (swapDue (.pendingEpoch day .before) e = true ↔ e ≥ day * 2 ^ 32) ∧
      (swapDue (.pendingEpoch day .after) e = true ↔ e < day * 2 ^ 32) ∧
      swapDue (.pendingEpoch day (swapSide day e)) e = false ∧
      swapSide day e = if e < day * 2 ^ 32 then .before else .after

/-- R146 to R149: the requests on the Cue List and on the channels, the record that a channel's replies carry, and their refusals.
R145: the indexes that each trigger kind takes. That a malformed request's reply carries the record of the channel its first byte names
is log entry 10. -/
def Obligations.CueRequests : Prop :=
  [TriggerKind.watchA, .watchB, .switchChange, .axisEvent].map TriggerKind.indexes = [24, 24, 24, 24] ∧
  [TriggerKind.segmentChange, .coverageChange].map TriggerKind.indexes = [12, 12] ∧
  [TriggerKind.epochWatch, .bankSwap].map TriggerKind.indexes = [1, 1] ∧
  ∀ (s : State) (r : Request) (rest : List Request), s.mgmt.requests = r :: rest →
    let record (c : Fin Config.channelCount) (x : Channel) : List Byte :=
      [codeByte c.val, flagByte x.armed, flagByte x.defined, codeByte x.trigger.kind.code, codeByte x.trigger.index,
        codeByte x.mode.code, codeByte x.count, codeByte x.remaining, codeByte x.listStart, codeByte x.listEnd,
        codeByte x.cursor, flagByte x.advance]
    let defines (c : Fin Config.channelCount) (n : Nat) (x : Channel) : Prop :=
      x.armed = false ∧ x.defined = true ∧ x.trigger.index < x.trigger.kind.indexes ∧ n < 256 ∧
        ((x.mode = .counted ∧ 1 ≤ n ∧ x.count = n) ∨ (x.mode = .continuous ∧ x.count = 0)) ∧ x.remaining = 0 ∧
        x.listStart ≤ x.listEnd ∧ x.listEnd < 256 ∧ x.cursor = x.listStart ∧
        r.args =
          [codeByte c.val, codeByte x.trigger.kind.code, codeByte x.trigger.index, codeByte x.mode.code, codeByte n,
            codeByte x.listStart, codeByte x.listEnd, flagByte x.advance]
    (r.code = 16 → r.args.length ≠ 2 + 13 * (r.args.getD 1 0).toNat → Answers .writeCues s r s .range []) ∧
    (r.code = 16 →
      ∀ (first : Nat) (entries : List (List Byte)), first < 256 → entries.length < 256 → (∀ e ∈ entries, e.length = 13) →
        r.args = codeByte first :: codeByte entries.length :: entries.flatten →
        (∀ actions : List CueAction, entries ≠ [] → entries.length ≤ 32 → first + entries.length ≤ 256 →
          entries.map decodeCue = actions.map some → Slots.wf CueAction.none s.cues.list = true →
          ∃ u, Answers .writeCues s r u .ok [] ∧
            (∀ i, u.cueEntry i =
              if first ≤ i ∧ i < first + entries.length then actions.getD (i - first) .none else s.cueEntry i) ∧
            u = { s with cues := { s.cues with list := u.cues.list } }) ∧
        (entries = [] ∨ entries.length > 32 ∨ first + entries.length > 256 ∨ none ∈ entries.map decodeCue →
          Answers .writeCues s r s .range [])) ∧
    (r.code = 17 →
      (∀ c n x, defines c n x →
        ((s.channel c).armed = true → Answers .writeChannel s r s .state (record c (s.channel c))) ∧
        ((s.channel c).armed = false → Answers .writeChannel s r (s.setChannel c x) .ok (record c x))) ∧
      (∀ c : Fin Config.channelCount, r.args.head? = some (codeByte c.val) → (∀ n x, ¬defines c n x) →
        Answers .writeChannel s r s .range (record c (s.channel c))) ∧
      ((∀ c : Fin Config.channelCount, r.args.head? ≠ some (codeByte c.val)) → Answers .writeChannel s r s .range [])) ∧
    (r.code = 18 →
      (∀ c : Fin Config.channelCount, r.args = [codeByte c.val] →
        let x := s.channel c
        let y : Channel :=
          { x with armed := true, cursor := x.listStart, remaining := if x.mode = .counted then x.count else x.remaining }
        (x.defined = true → Answers .armChannel s r (s.setChannel c y) .ok (record c y)) ∧
        (x.defined = false → Answers .armChannel s r s .state (record c x))) ∧
      (∀ c : Fin Config.channelCount, r.args.head? = some (codeByte c.val) → r.args.length ≠ 1 →
        Answers .armChannel s r s .range (record c (s.channel c))) ∧
      ((∀ c : Fin Config.channelCount, r.args.head? ≠ some (codeByte c.val)) → Answers .armChannel s r s .range [])) ∧
    (r.code = 19 →
      (∀ c : Fin Config.channelCount, r.args = [codeByte c.val] →
        let y : Channel := { s.channel c with armed := false }
        Answers .disarmChannel s r (s.setChannel c y) .ok (record c y)) ∧
      (∀ c : Fin Config.channelCount, r.args.head? = some (codeByte c.val) → r.args.length ≠ 1 →
        Answers .disarmChannel s r s .range (record c (s.channel c))) ∧
      ((∀ c : Fin Config.channelCount, r.args.head? ≠ some (codeByte c.val)) → Answers .disarmChannel s r s .range []))

/-- R104 to R111, R184: the six axis commands, each under its own name and as AXIS_COMMAND: their refusals, their effects and the
state, phase and HOMED flag that an accepted one answers. That a command's own name and AXIS_COMMAND execute the same request is log
entry 24. -/
def Obligations.AxisCommandsTaken : Prop :=
  ∀ (s : State) (r : Request) (rest : List Request) (i : Instr), s.mgmt.requests = r :: rest → r.code = 9 → s.eval = none →
    (∀ a : Fin Config.axisCount,
      let x := s.axis a
      let accepted (y : Axis) : Prop :=
        Answers i s r (s.setAxis a y) .ok [codeByte y.state.code, codeByte y.state.phaseCode, flagByte y.homed]
      (i = .enable ∨ i = .axisCommand → r.args = [codeByte a.val, 0] →
        (x.state ≠ .off → Answers i s r s .state []) ∧
        (x.state = .off → x.travel.node = 0 → Answers i s r s .range []) ∧
        (x.state = .off → x.travel.node ≠ 0 → x.drive.actual = none → Answers i s r s .state []) ∧
        (∀ actual, x.state = .off → x.travel.node ≠ 0 → x.drive.actual = some actual →
          let p := if x.travel.kind = .continuous then (actual - x.offset) % 2 ^ 32 else reduceExt (actual - x.offset)
          let outside := x.travel.homeMode = .absolute ∧ x.travel.kind = .bounded ∧
            (p < x.travel.softLow ∨ p > x.travel.softHigh)
          (outside → Answers i s r s .range []) ∧
          (¬outside → x.travel.homeMode = .search →
            accepted { x with position := p, velocity := 0, state := .unhomed, homed := false }) ∧
          (¬outside → x.travel.homeMode = .absolute →
            accepted { x with position := p, velocity := 0, state := .holding, homed := true }))) ∧
      (i = .disable ∨ i = .axisCommand → r.args = [codeByte a.val, 1] →
        let allowed := (x.state = .unhomed ∨ x.state = .holding ∨ x.state = .faulted) ∧ x.velocity = 0
        (¬allowed → Answers i s r s .state []) ∧
        (allowed →
          accepted
            { x with
              state := .off, homed := false, causes := [],
              drive := { x.drive with history := [], answerPending := false, missCount := 0, followError := none } })) ∧
      (i = .home ∨ i = .axisCommand → r.args = [codeByte a.val, 2] →
        (s.mgmt.mode = .showing → Answers i s r s .mode []) ∧
        (s.mgmt.mode = .setup → x.travel.homeMode = .absolute ∨ (x.state ≠ .unhomed ∧ x.state ≠ .holding) →
          Answers i s r s .state []) ∧
        (s.mgmt.mode = .setup → x.travel.homeMode = .search → x.state = .unhomed ∨ x.state = .holding →
          accepted { x with homed := false, state := .homing .seek, seekStart := x.position, seekTravel := 0 })) ∧
      (i = .track ∨ i = .axisCommand → r.args = [codeByte a.val, 3] →
        let outside := (x.travel.kind = .bounded ∧ (x.position < x.travel.softLow ∨ x.position > x.travel.softHigh)) ∨
          (x.travel.kind = .wound ∧ (x.position < -(x.travel.wind * 2 ^ 32) ∨ x.position > x.travel.wind * 2 ^ 32))
        (x.state = .tracking → accepted x) ∧
        (x.state = .holding → outside → Answers i s r s .range []) ∧
        (x.state = .holding → ¬outside → accepted { x with state := .tracking, suppress := true }) ∧
        (x.state ≠ .tracking → x.state ≠ .holding → Answers i s r s .state [])) ∧
      (i = .stop ∨ i = .axisCommand → r.args = [codeByte a.val, 4] →
        (x.state = .tracking → accepted { x with state := .holding }) ∧
        (x.state = .homing .seek → accepted { x with state := .homing .abandon }) ∧
        (x.state ≠ .tracking → x.state ≠ .homing .seek → accepted x)) ∧
      (i = .clearFault ∨ i = .axisCommand → r.args = [codeByte a.val, 5] →
        (x.state ≠ .faulted ∨ x.drive.faultBit = true → Answers i s r s .state []) ∧
        (x.state = .faulted → x.drive.faultBit = false →
          accepted { x with causes := [], state := if x.homed then .holding else .unhomed }))) ∧
    (∀ b n : Byte, 24 ≤ b.toNat → r.args = [b, n] →
      (i, n) ∈ [(Instr.enable, 0), (.disable, 1), (.home, 2), (.track, 3), (.stop, 4), (.clearFault, 5)] →
      Answers i s r s .range []) ∧
    (∀ (b n more : Byte) (rest : List Byte), r.args = b :: n :: more :: rest →
      (i, n) ∈ [(Instr.enable, 0), (.disable, 1), (.home, 2), (.track, 3), (.stop, 4), (.clearFault, 5)] →
      Answers i s r s .range []) ∧
    (i = .axisCommand → (∀ (a : Fin Config.axisCount) (n : Nat), n ≤ 5 → r.args ≠ [codeByte a.val, codeByte n]) →
      Answers i s r s .range [])

/-- R60, R99 to R101, R140, R183, R184: WRITE_AXIS. Its refusals in their order, with every range that its values are tested against, and,
once its fields pass, a write that reads back as the items carried, with every other field as it stood but for the effects that the
rules name; the previous target and the causes stay. The model's choices and inferences in it: the offset's and the absent Next's item
values (log entry 14), the range of O at a change of kind to CONTINUOUS tested after the reduction (15), a write without travel fields
or without items (16), the index of a source that uses none (17), and switch_mask's range 0 to 7 (27). -/
def Obligations.AxisFieldsWritten : Prop :=
  ∀ (s : State) (r : Request) (rest : List Request), s.mgmt.requests = r :: rest → r.code = 8 → s.eval = none →
    ((∀ (a : Fin Config.axisCount) (items : List (Nat × Int)), items.length < 256 → (∀ e ∈ items, ItemFits e) →
        r.args ≠ itemArgs a items) → Answers .writeAxis s r s .range []) ∧
    ∀ (a : Fin Config.axisCount) (items : List (Nat × Int)), items.length < 256 → (∀ e ∈ items, ItemFits e) →
    r.args = itemArgs a items →
    let x := s.axis a
    let names (id : Nat) : Prop := ∃ e ∈ items, e.1 = id
    let named : Prop := (items.map (·.1)).Nodup ∧ ∀ e ∈ items, (1 ≤ e.1 ∧ e.1 ≤ 17) ∨ (32 ≤ e.1 ∧ e.1 ≤ 45)
    let travels : Prop := ∃ e ∈ items, 1 ≤ e.1 ∧ e.1 ≤ 17
    let value (id : Nat) : Int := ((items.find? fun e => decide (e.1 = id)).map (·.2)).getD (axisItem x s.site id)
    let inKind (y : Int) : Prop :=
      (value 1 = 0 → 0 ≤ y ∧ y ≤ 2 ^ 32 - 1) ∧ (value 1 ≠ 0 → -2 ^ 47 ≤ y ∧ y ≤ 2 ^ 47 - 1)
    let reduced : Int := if value 1 = 0 ∧ x.travel.kind ≠ .continuous then x.offset % 2 ^ 32 else x.offset
    let travelPasses : Prop :=
      (value 1 = 0 ∨ value 1 = 1 ∨ value 1 = 2) ∧ (-2 ^ 31 ≤ value 2 ∧ value 2 < value 3 ∧ value 3 ≤ 2 ^ 31 - 1) ∧
        (1 ≤ value 4 ∧ value 4 ≤ 1024) ∧ (1 ≤ value 5 ∧ value 5 ≤ 2 ^ 28) ∧ (1 ≤ value 6 ∧ value 6 ≤ 2 ^ 24) ∧
        (1 ≤ value 7 ∧ value 7 ≤ 2 ^ 24) ∧ (value 8 = 0 ∨ value 8 = 1) ∧ (value 9 ≠ 0 ∧ mag (value 9) ≤ value 5) ∧
        (value 1 = 0 → 0 ≤ value 10 ∧ value 10 ≤ 2 ^ 32 - 1) ∧ (value 1 = 1 → value 2 ≤ value 10 ∧ value 10 ≤ value 3) ∧
        (value 1 = 2 → -(value 4 * 2 ^ 32) ≤ value 10 ∧ value 10 ≤ value 4 * 2 ^ 32) ∧ (1 ≤ value 11 ∧ value 11 ≤ 2 ^ 40) ∧
        (0 ≤ value 12 ∧ value 12 ≤ 30) ∧ (0 ≤ value 13 ∧ value 13 ≤ 3) ∧ (1 ≤ value 14 ∧ value 14 ≤ 2 ^ 31) ∧
        (1 ≤ value 15 ∧ value 15 ≤ 15) ∧ (0 ≤ value 16 ∧ value 16 ≤ 7) ∧
        (value 12 ≠ 0 → ∀ b, b ≠ a →
          ¬(((s.axis b).travel.node : Int) = value 12 ∧ ((s.axis b).travel.channel : Int) = value 13)) ∧
        (names 17 → value 8 = 1 ∧ inKind (value 17)) ∧ (¬names 17 → inKind reduced)
    let sourcePasses : Prop :=
      names 32 ∨ names 33 → (0 ≤ value 32 ∧ value 32 ≤ 5) ∧
        (value 32 = 0 ∨ value 32 = 1 → 0 ≤ value 33 ∧ value 33 ≤ 11) ∧ (value 32 = 4 → 0 ≤ value 33 ∧ value 33 < a.val)
    let targetPasses : Prop := ∀ e ∈ items,
      (e.1 = 34 ∨ e.1 = 38 → -2 ^ 31 ≤ e.2 ∧ e.2 ≤ 2 ^ 31 - 1) ∧
        (e.1 = 35 → (value 1 = 1 → -2 ^ 31 ≤ e.2 ∧ e.2 ≤ 2 ^ 31 - 1) ∧ (value 1 ≠ 1 → 0 ≤ e.2 ∧ e.2 ≤ 2 ^ 32 - 1)) ∧
        (e.1 = 36 → 0 ≤ e.2 ∧ e.2 ≤ 2 ^ 32 - 1) ∧ (e.1 = 37 → -16 ≤ e.2 ∧ e.2 ≤ 16) ∧
        (e.1 = 39 ∨ e.1 = 41 ∨ e.1 = 44 → 0 ≤ e.2 ∧ e.2 ≤ 1) ∧ (e.1 = 40 ∨ e.1 = 43 → inKind e.2) ∧
        (e.1 = 42 ∨ e.1 = 45 → e.2 = -2 ^ 63 ∨ inKind e.2)
    let passes : Prop := (travels → travelPasses) ∧ sourcePasses ∧ targetPasses
    (¬named → Answers .writeAxis s r s .range []) ∧
    (named → travels → s.mgmt.mode = .showing → Answers .writeAxis s r s .mode []) ∧
    (named → travels → s.mgmt.mode = .setup → x.state ≠ .off → Answers .writeAxis s r s .state []) ∧
    (named → (travels → s.mgmt.mode = .setup ∧ x.state = .off) →
      (¬passes → Answers .writeAxis s r s .range []) ∧
      (passes →
        ∃ u, Answers .writeAxis s r u .ok [] ∧ (∀ b, b ≠ a → u.axis b = s.axis b) ∧ u = { s with axes := u.axes } ∧
          let y := u.axis a
          y =
            { x with
              travel := y.travel, offset := y.offset, target := y.target, suppress := y.suppress,
              drive :=
                if value 12 ≠ x.travel.node ∨ value 13 ≠ x.travel.channel then
                  { x.drive with actual := none, live := none, faultBit := false }
                else x.drive } ∧
            (∀ e ∈ items, e.1 ≠ 33 → axisItem y s.site e.1 = e.2) ∧
            (∀ id, ¬names id → id ≠ 17 → id ≠ 33 → id ≠ 35 → id ≠ 74 → id ≠ 79 → id ≠ 80 → id ≠ 84 →
              axisItem y s.site id = axisItem x s.site id) ∧
            (travels → y.travel.Valid ∧ positionInRange y.travel.kind y.offset = true) ∧ (¬travels → y.travel = x.travel) ∧
            (¬names 17 → y.offset = reduced) ∧ (¬names 35 → y.target.offset = x.target.offset) ∧
            (names 32 ∨ names 33 →
              (y.target.index : Int) = if value 32 = 0 ∨ value 32 = 1 ∨ value 32 = 4 then value 33 else 0) ∧
            (¬names 32 → ¬names 33 → y.target.index = x.target.index) ∧
            (y.suppress = true ↔ x.suppress = true ∨ ∃ e ∈ items, 32 ≤ e.1 ∧ e.1 ≤ 39)))

/-- R166, R167, R184: the device mode requests, a code that names no request, and a SOFT_RESET with arguments. -/
def Obligations.ModesAndUnknownRequests : Prop :=
  ∀ (s : State) (r : Request) (rest : List Request), s.mgmt.requests = r :: rest →
    let fit (x : Axis) : Prop := x.state = .off ∨ (x.homed = true ∧ (x.state = .holding ∨ x.state = .tracking))
    (r.code = 20 → r.args = [] →
      (s.mgmt.mode = .showing → Answers .enterShow s r s .ok []) ∧
      (s.mgmt.mode = .setup → (∀ a, fit (s.axis a)) →
        Answers .enterShow s r { s with mgmt := { s.mgmt with mode := .showing } } .ok []) ∧
      (∀ a : Fin Config.axisCount, s.mgmt.mode = .setup → ¬fit (s.axis a) →
        (∀ b : Fin Config.axisCount, b.val < a.val → fit (s.axis b)) →
        Answers .enterShow s r s .state [codeByte a.val, codeByte (s.axis a).state.code])) ∧
    (r.code = 21 → r.args = [] → Answers .enterSetup s r { s with mgmt := { s.mgmt with mode := .setup } } .ok []) ∧
    (r.args ≠ [] →
      (r.code = 20 → Answers .enterShow s r s .range []) ∧ (r.code = 21 → Answers .enterSetup s r s .range []) ∧
        (r.code = 22 → s.eval = none → Answers .softReset s r s .range [])) ∧
    (r.code = 0 ∨ r.code.toNat > 22 → Answers .unknownRequest s r s .kind [])

/-- R102, R165, R170: the requests that wait for an evaluation in flight, malformed ones among them (log entry 19); a request's command
while no request of its own stands at the head of the queue, where none stands there or another does (log entry 2); and what each
request leaves as it stands, whether it is accepted, refused or waits. A request on an axis can change the axis that its first
byte names, and no other. An answer takes the request from the head of its queue and puts the REPLY at the tail of the other. -/
def Obligations.RequestsWaitAndFrame : Prop :=
  (∀ (s : State) (r : Request) (code : ReplyCode) (content : List Byte),
    s.answer r code content =
      { s with
        mgmt :=
          { s.mgmt with
            requests := s.mgmt.requests.tail,
            replies := s.mgmt.replies ++ [{ tag := r.tag, code := r.code, result := code, content := content }] } }) ∧
  ∀ (s t : State) (i : Instr), exec i s = .next t →
    (i ∈ [Instr.setSite, .readAxis, .writeAxis, .enable, .disable, .home, .track, .stop, .clearFault, .axisCommand, .softReset] →
      s.eval ≠ none ∨ s.mgmt.requests = [] → t = s) ∧
    (i ∈ [Instr.unknownRequest, .readStatus, .setEpoch, .setRate, .setEpochWatch, .setCadence, .readBody, .writeBody,
        .loadSegments, .readSegments, .swapBanks, .cancelSwap, .writeCues, .writeChannel, .armChannel, .disarmChannel, .enterShow,
        .enterSetup] →
      s.mgmt.requests = [] → t = s) ∧
    (∀ r rest, s.mgmt.requests = r :: rest →
      (∀ code : Byte, r.code ≠ code →
        (i, code) ∈ [(Instr.readStatus, 1), (.setEpoch, 2), (.setRate, 3), (.setEpochWatch, 4), (.setCadence, 5), (.setSite, 6),
            (.readAxis, 7), (.writeAxis, 8), (.axisCommand, 9), (.readBody, 10), (.writeBody, 11), (.loadSegments, 12),
            (.readSegments, 13), (.swapBanks, 14), (.cancelSwap, 15), (.writeCues, 16), (.writeChannel, 17), (.armChannel, 18),
            (.disarmChannel, 19), (.enterShow, 20), (.enterSetup, 21), (.softReset, 22)] → t = s) ∧
      (i = .unknownRequest → 1 ≤ r.code.toNat → r.code.toNat ≤ 22 → t = s) ∧
      ∀ code : Byte, r.code ≠ 9 ∨ r.args[1]? ≠ some code →
        (i, code) ∈ [(Instr.enable, 0), (.disable, 1), (.home, 2), (.track, 3), (.stop, 4), (.clearFault, 5)] → t = s) ∧
    (i ∈ [Instr.unknownRequest, .readAxis, .readBody, .readSegments] → LineOnly s t ∧ t.notices.Sublist s.notices) ∧
    (i = .readStatus →
      LineOnly { s with ring := { s.ring with errorsU := t.ring.errorsU, errorsD := t.ring.errorsD } } t ∧
        t.notices.Sublist s.notices) ∧
    (i ∈ [Instr.setEpoch, .setRate, .setEpochWatch, .setCadence] →
      LineOnly { s with clock := t.clock } t ∧ t.notices.Sublist s.notices) ∧
    (i = .setSite → LineOnly { s with site := t.site } t ∧ t.notices.Sublist s.notices) ∧
    (i ∈ [Instr.writeAxis, .enable, .disable, .home, .track, .stop, .clearFault, .axisCommand] →
      LineOnly { s with axes := t.axes } t ∧ t.notices.Sublist s.notices ∧
        ∀ r rest, s.mgmt.requests = r :: rest → ∀ b : Fin Config.axisCount, r.args.head? ≠ some (codeByte b.val) →
          (t.axis b).butReported = (s.axis b).butReported) ∧
    (i ∈ [Instr.writeBody, .loadSegments, .swapBanks, .cancelSwap] →
      LineOnly { s with store := t.store } t ∧ t.store.active = s.store.active ∧
        t.bank s.store.active = s.bank s.store.active ∧ t.notices.Sublist s.notices) ∧
    (i ∈ [Instr.writeCues, .writeChannel, .armChannel, .disarmChannel] →
      LineOnly { s with cues := t.cues } t ∧ t.cues.held = s.cues.held ∧ t.notices.Sublist s.notices) ∧
    (i ∈ [Instr.enterShow, .enterSetup] →
      LineOnly { s with mgmt := { s.mgmt with mode := t.mgmt.mode } } t ∧ t.notices.Sublist s.notices)

/-! ## Bytes -/

/-- Sections 11.1 to 11.3, R180 to R182: a frame of the part's own passes its check and its length and reads back; segment records,
descriptors, axis items, FEEDBACK records and Cue List entries read back, each laid out in the order of its table; and the codes of the
enumerated values stand in the order of their lists. R149, R184: an entry is refused that names an action, axis, channel, selector or
source kind without a meaning. That the source kind is tested as it is written is log entry 9. -/
def Obligations.RecordsReadBack : Prop :=
  (∀ (kind : Byte) (node : Nat) (payload : List Byte), node < 256 → payload.length ≤ 1024 →
    let f := encodeFrame kind node payload
    Checked f ∧ frameKind f = kind ∧ frameNode f = node ∧ framePayload f = payload ∧
      let covered := [kind, codeByte node] ++ natBytes 2 payload.length ++ payload
      f = covered ++ natBytes 2 (checkOf covered).toNat) ∧
  (∀ (k n : Nat) (x : Int),
    natBytes 0 n = [] ∧ natBytes (k + 1) n = natBytes k (n / 256) ++ [codeByte n] ∧
      intBytes k x = natBytes k (x % (256 ^ k : Nat)).toNat ∧ (codeByte n).toNat = n % 256 ∧
      beNat (natBytes k n) = n % 256 ^ k) ∧
  (∀ (k : Nat) (x : Int), 1 ≤ k → -(256 ^ k : Nat) ≤ 2 * x → 2 * x < (256 ^ k : Nat) → beInt (intBytes k x) = x) ∧
  (∀ g : Segment,
    encodeSegment g =
      intBytes 4 g.start ++ natBytes 2 g.span ++ intBytes 4 g.c0 ++ intBytes 4 g.c1 ++ intBytes 4 g.c2 ++ intBytes 4 g.c3 ++
        intBytes 4 g.b0 ++ intBytes 4 g.b1 ++ intBytes 4 g.b2) ∧
  (∀ d : Descriptor,
    encodeDescriptor d =
      [flagByte d.enabled] ++ natBytes 2 d.base ++ natBytes 2 d.length ++ intBytes 4 d.phase ++ intBytes 1 d.turns ++
        intBytes 4 d.fraction ++ intBytes 4 d.latitude ++ intBytes 4 d.tolerance) ∧
  (∀ (id : Nat) (v : Int), encodeItem id v = codeByte id :: intBytes 8 v) ∧
  (∀ g : Segment, g.Fits → decodeSegment (encodeSegment g) = g) ∧
  (∀ d : Descriptor, d.Fits → decodeDescriptor (encodeDescriptor d) = d) ∧
  (∀ e : Nat × Int, ItemFits e → decodeItem (encodeItem e.1 e.2) = e) ∧
  (∀ (cycle : Byte) (unused : Nat) (rs : List FeedbackRecord), rs ≠ [] → rs.length ≤ 4 →
    (∀ r ∈ rs, r.channel < 256 ∧ -2 ^ 47 ≤ r.actual ∧ r.actual < 2 ^ 47) →
    decodeFeedback (cycle :: codeByte rs.length :: rs.flatMap fun r =>
      [codeByte r.channel, codeByte (r.switches.bits + (if r.fault then 8 else 0) + 16 * unused)] ++ intBytes 6 r.actual) =
        some (cycle, rs)) ∧
  (∀ i : Switches, i.bits = (if i.home then 1 else 0) + (if i.low then 2 else 0) + (if i.high then 4 else 0)) ∧
  (∀ (a : Fin Config.axisCount) (c : Fin Config.channelCount) (pad : List Byte),
    decodeCue (0 :: pad) = some .none ∧
      (∀ (k : SourceKind) (i : Byte),
        decodeCue (1 :: codeByte a.val :: codeByte k.code :: i :: pad) = some (.axisSource a k i.toNat)) ∧
      (∀ axis kind : Byte, 5 < kind.toNat → decodeCue (1 :: axis :: kind :: pad) = none) ∧
      (∀ axis command : Byte, 1 < command.toNat → decodeCue (4 :: axis :: command :: pad) = none) ∧
      (∀ axis selector : Byte, 3 < selector.toNat → decodeCue (6 :: axis :: selector :: pad) = none) ∧
      (∀ (day : Int) (enable : Byte), 1 < enable.toNat → decodeCue (7 :: (intBytes 4 day ++ enable :: pad)) = none) ∧
      (∀ v : BitVec 32, decodeCue (2 :: codeByte a.val :: (natBytes 4 v.toNat ++ pad)) = some (.axisOffset a v)) ∧
      (∀ v : Int, -2 ^ 31 ≤ v → v < 2 ^ 31 →
        decodeCue (3 :: codeByte a.val :: (intBytes 4 v ++ pad)) = some (.axisScale a v)) ∧
      (∀ stop, decodeCue (4 :: codeByte a.val :: flagByte stop :: pad) = some (.axisState a stop)) ∧
      (∀ qt slew : Int, -2 ^ 47 ≤ qt → qt < 2 ^ 47 → 0 ≤ slew → slew < 2 ^ 48 →
        decodeCue (5 :: (intBytes 6 qt ++ (intBytes 6 slew ++ pad))) = some (.clockRate qt slew)) ∧
      (∀ (b n : Bool) (v : Int), -2 ^ 47 ≤ v → v < 2 ^ 47 →
        decodeCue (6 :: codeByte a.val :: codeByte (b.toNat + 2 * n.toNat) :: (intBytes 6 v ++ pad)) =
          some (.watchLoad a b n v)) ∧
      (∀ (day : Int) (enable : Bool), -2 ^ 31 ≤ day → day < 2 ^ 31 →
        decodeCue (7 :: (intBytes 4 day ++ flagByte enable :: pad)) = some (.epochWatchSet day enable)) ∧
      decodeCue (8 :: codeByte c.val :: pad) = some (.channelArm c) ∧
      decodeCue (9 :: codeByte c.val :: pad) = some (.channelDisarm c) ∧
      (∀ code, decodeCue (10 :: code :: pad) = some (.note code.toNat)) ∧
      (∀ action, 10 < action.toNat → decodeCue (action :: pad) = none) ∧
      (∀ action b : Byte, action ∈ ([1, 2, 3, 4, 6] : List Byte) → 24 ≤ b.toNat → decodeCue (action :: b :: pad) = none) ∧
      (∀ action b : Byte, action ∈ ([8, 9] : List Byte) → 8 ≤ b.toNat → decodeCue (action :: b :: pad) = none)) ∧
  (∀ (a : Fin Config.axisCount) (c : Fin Config.channelCount) (k : SourceKind) (i : Nat) (v : BitVec 32) (x y : Int) (p q : Bool),
    [CueAction.none, .axisSource a k i, .axisOffset a v, .axisScale a x, .axisState a p, .clockRate x y, .watchLoad a p q x,
      .epochWatchSet x p, .channelArm c, .channelDisarm c, .note i].map CueAction.code = [0, 1, 2, 3, 4, 5, 6, 7, 8, 9, 10]) ∧
  [NoticeKind.fault, .cadence, .switch, .axis, .coverage, .seam, .cue, .overrun, .epochLimit, .linkU, .linkD, .requestDrop,
    .bankSwap].map NoticeKind.code = [1, 2, 3, 4, 5, 6, 7, 8, 9, 10, 11, 12, 13] ∧
  [Cause.following, .hardLimit, .driveFault, .feedbackLost, .homeLimit, .homeNotFound].map Cause.code = [1, 2, 3, 4, 5, 6] ∧
  [LinkReason.check, .length, .address, .overflow].map LinkReason.code = [0, 1, 2, 3] ∧
  [ReplyCode.ok, .kind, .range, .mode, .state, .bank].map ReplyCode.code = [0, 1, 2, 3, 4, 5] ∧
  [AxisKind.continuous, .bounded, .wound].map AxisKind.code = [0, 1, 2] ∧
  [HomeMode.search, .absolute].map HomeMode.code = [0, 1] ∧
  [SourceKind.bodyLongitude, .bodyLatitude, .linear, .siteLatitude, .follow, .fixed].map SourceKind.code = [0, 1, 2, 3, 4, 5] ∧
  [AxisState.off, .unhomed, .homing .seek, .holding, .tracking, .halting, .faulted].map AxisState.code = [0, 1, 2, 3, 4, 5, 6] ∧
  [AxisState.homing .seek, .homing .settle, .homing .abandon, .off, .faulted].map AxisState.phaseCode = [0, 1, 2, 255, 255] ∧
  [ChannelMode.counted, .continuous].map ChannelMode.code = [0, 1] ∧
  [TriggerKind.watchA, .watchB, .epochWatch, .segmentChange, .coverageChange, .switchChange, .bankSwap,
    .axisEvent].map TriggerKind.code = [0, 1, 2, 3, 4, 5, 6, 7] ∧
  (∀ day side, [SwapState.idle, .pendingNext, .pendingEpoch day side].map SwapState.code = [0, 1, 2]) ∧
  [Side.before, .after].map Side.code = [0, 1] ∧ [Coverage.unknown, .covered, .uncovered].map Coverage.code = [0, 1, 2] ∧
  [StoreCheck.window, .span, .finish, .order].map StoreCheck.code = [0, 1, 2, 3] ∧
  [Mode.setup, .showing].map Mode.code = [0, 1] ∧
  [CadenceState.unarmed, .watching, .localPaced].map CadenceState.code = [0, 1, 2] ∧
  flagByte false = 0 ∧ flagByte true = 1

/-! ## Laws that every step keeps -/

/-- The laws of Safety.lean hold right after power-on reset. -/
def Obligations.LawsHoldAtReset : Prop :=
  let s := State.reset
  CreditsBalance s ∧ BuffersBounded s ∧ NothingWaitsOnIdle s ∧ ResetReplyFirst s ∧ NoticesSound s.notices ∧
    EphemerisLaw s.store ∧ StoresSound s ∧ ClockSound s.clock ∧ AxesSound s ∧ ChannelsDistinct s ∧ HistoriesSound s ∧ CuesSound s ∧ CompletesAtOnce s

/-- R164: every step keeps the balance of the eight credits. -/
def Obligations.CreditsStayBalanced : Prop :=
  ∀ s t : State, CreditsBalance s → step s = .next t → CreditsBalance t

/-- R158, R161 to R163, R171: every step keeps the bounds of the buffers and counters, leaves no transmitter idle while something
waits for it, and keeps a SOFT_RESET reply first. -/
def Obligations.PortsStaySound : Prop :=
  ∀ s t : State, BuffersBounded s ∧ NothingWaitsOnIdle s ∧ ResetReplyFirst s → step s = .next t →
    BuffersBounded t ∧ NothingWaitsOnIdle t ∧ ResetReplyFirst t

/-- R24, R31, R32: in every step the active bank stays valid, and so does a sealed shadow. -/
def Obligations.EphemerisLawIsKept : Prop :=
  ∀ s t : State, EphemerisLaw s.store → step s = .next t → EphemerisLaw t.store

/-- R59, R60, R79, R92, R95, R97, R99 to R101, R118, R125: every step keeps the laws of every axis, among them a source index that names
a body or a lower axis (0 for a source that uses none: log entry 17), and no drive channel comes to serve two; and every step keeps the
command histories unbroken, their cycle numbers distinct, with the records of the evaluation in flight those of the axes shaped. The
limits that TRACKING keeps and the ranges of a home position are those of R95 and R99. -/
def Obligations.AxesStaySound : Prop :=
  (∀ (t : Travel) (p : Int),
    t.inLimits p = true ↔
      (t.kind = .bounded → t.softLow ≤ p ∧ p ≤ t.softHigh) ∧
        (t.kind = .wound → -(t.wind * 2 ^ 32) ≤ p ∧ p ≤ t.wind * 2 ^ 32)) ∧
  (∀ lo hi wind p : Int,
    (homePositionAccepted .continuous lo hi wind p = true ↔ 0 ≤ p ∧ p ≤ 2 ^ 32 - 1) ∧
      (homePositionAccepted .bounded lo hi wind p = true ↔ lo ≤ p ∧ p ≤ hi) ∧
      (homePositionAccepted .wound lo hi wind p = true ↔ -(wind * 2 ^ 32) ≤ p ∧ p ≤ wind * 2 ^ 32)) ∧
  (∀ s t : State, AxesSound s ∧ ChannelsDistinct s → step s = .next t → AxesSound t ∧ ChannelsDistinct t) ∧
  ∀ s t : State, HistoriesSound s → step s = .next t → HistoriesSound t

/-- R173, R174: a raise makes a new entry of count 1, the last in the order of insertion, or coalesces into the entry that stands for
its key: the count rises, saturating at 255, the detail is replaced and the entry keeps its place. An entry stands for a key while one
of that kind and index is in the set. Every step keeps the Notice Set at one entry for each key. -/
def Obligations.NoticesStaySound : Prop :=
  (∀ (kind : NoticeKind) (index : Nat) (detail : Detail) (ns : List Notice),
    ((∀ n ∈ ns, ¬(n.kind = kind ∧ n.index = index)) →
      raiseInto kind index detail ns = ns ++ [{ kind := kind, index := index, count := 1, detail := detail }]) ∧
    ((∃ n ∈ ns, n.kind = kind ∧ n.index = index) →
      raiseInto kind index detail ns =
        ns.map fun n =>
          if n.kind = kind ∧ n.index = index then { n with count := min 255 (n.count + 1), detail := detail } else n)) ∧
  (∀ (s : State) (kind : NoticeKind) (index : Nat),
    s.standing kind index = true ↔ ∃ n ∈ s.notices, n.kind = kind ∧ n.index = index) ∧
  ∀ s t : State, NoticesSound s.notices → step s = .next t → NoticesSound t.notices

/-- R1, R2, R6, R15, R16, R18, R20, R145: every step keeps the ranges of the Sky Clock, and the canonical form of the segment slots
and of the Cue List. The numbers that these laws name: the limits of the epoch and of a day, the largest rate, the parts of a turn, and
how many axes, bodies, channels, slots, entries and credits there are (R38, R62, R164); and the canonical form itself, which is the
model's own, with what an unlisted address reads as. -/
def Obligations.ClockAndStoresStaySound : Prop :=
  (epochMin = -5000000 * 2 ^ 32 ∧ epochMax = 5000000 * 2 ^ 32 + 2 ^ 32 - 1 ∧ dayLimit = 5000000 ∧ rateLimit = 2 ^ 44 - 1 ∧
    turn = 2 ^ 32 ∧ halfTurn = 2 ^ 31 ∧ quarterTurn = 2 ^ 30) ∧
  (Config.axisCount = 24 ∧ Config.bodyCount = 12 ∧ Config.channelCount = 8 ∧ Config.slotCount = 2048 ∧ Config.cueCount = 256 ∧
    Config.creditCount = 8) ∧
  (∀ slots : Slots Segment,
    Slots.wf Segment.zero slots = true ↔
      (slots.map (·.1)).Pairwise (· < ·) ∧ ∀ e ∈ slots, e.2 ≠ Segment.zero) ∧
  (∀ list : Slots CueAction,
    Slots.wf CueAction.none list = true ↔ (list.map (·.1)).Pairwise (· < ·) ∧ ∀ e ∈ list, e.2 ≠ .none) ∧
  (∀ (b : Bank) (slot : Nat),
    b.segment slot = ((b.slots.find? fun e => decide (e.1 = slot)).map (·.2)).getD Segment.zero) ∧
  (∀ (s : State) (i : Nat),
    s.cueEntry i = ((s.cues.list.find? fun e => decide (e.1 = i)).map (·.2)).getD .none) ∧
  ∀ s t : State, ClockSound s.clock ∧ StoresSound s → step s = .next t → ClockSound t.clock ∧ StoresSound t

/-- R11, R145, R147, R151: every step keeps the laws of the channels and of the held set, and leaves no evaluation in its servicing
without a trigger. -/
def Obligations.CuesStaySound : Prop :=
  ∀ s t : State, CuesSound s ∧ CompletesAtOnce s → step s = .next t → CuesSound t ∧ CompletesAtOnce t
end

