-- ==== Sys2Proof/Laws/Arith.lean ====
section
/-! SUPPORT. What the arithmetic of 00_scope 1.5 gives: ranges, the integer square root, and the bounded steps. -/

namespace Sys2Proof.Machine

theorem angle_range (x : Int) : 0 ≤ angle x ∧ angle x < turn := by
  unfold angle turn; omega

theorem angle_eq_self {x : Int} (lo : 0 ≤ x) (hi : x < turn) : angle x = x := by
  unfold angle turn at *; omega

theorem wrap_range (x : Int) : -halfTurn ≤ wrap x ∧ wrap x < halfTurn := by
  unfold wrap halfTurn turn; omega

/-- wrap(x) is congruent to x modulo one turn. -/
theorem angle_wrap (x : Int) : angle (wrap x) = angle x := by
  unfold angle wrap halfTurn turn; omega

theorem reduceExt_range (x : Int) : -extHalf ≤ reduceExt x ∧ reduceExt x < extHalf := by
  unfold reduceExt extHalf extSpan; omega

theorem reduceExt_eq_self {x : Int} (lo : -extHalf ≤ x) (hi : x < extHalf) : reduceExt x = x := by
  unfold reduceExt extHalf extSpan at *; omega

/-- Within one span of the extended range, the reduction adds or subtracts 2^48 once (R91, R101). -/
theorem reduceExt_once {x : Int} (lo : -extHalf - extSpan ≤ x) (hi : x < extHalf + extSpan) :
    reduceExt x = if x < -extHalf then x + extSpan else if x ≥ extHalf then x - extSpan else x := by
  unfold reduceExt extHalf extSpan at *
  repeat' split
  all_goals omega

theorem clamp_range {lo hi x : Int} (h : lo ≤ hi) : lo ≤ clamp lo hi x ∧ clamp lo hi x ≤ hi := by
  unfold clamp
  repeat' split
  all_goals omega

theorem clamp_eq_self {lo hi x : Int} (l : lo ≤ x) (h : x ≤ hi) : clamp lo hi x = x := by
  unfold clamp; rw [if_neg (by omega), if_neg (by omega)]

theorem mag_le {x m : Int} : mag x ≤ m ↔ -m ≤ x ∧ x ≤ m := by
  unfold mag; split <;> omega

theorem mag_nonneg (x : Int) : 0 ≤ mag x := by
  unfold mag; split <;> omega

theorem within_iff {lo hi x : Int} : within lo hi x = true ↔ lo ≤ x ∧ x ≤ hi := by
  simp [within]

/-- A velocity step changes the velocity by at most the step, and never past the wanted one (R86 to R89). -/
theorem velocityStep_bound {v wanted step : Int} (h : 0 ≤ step) : mag (velocityStep v wanted step - v) ≤ step := by
  unfold velocityStep
  have := clamp_range (lo := -step) (hi := step) (x := wanted - v) (by omega)
  rw [mag_le]; omega

theorem velocityStep_between {v wanted step m : Int} (h : 0 ≤ step) (hv : mag v ≤ m) (hw : mag wanted ≤ m) :
    mag (velocityStep v wanted step) ≤ m := by
  rw [mag_le] at *
  unfold velocityStep clamp
  repeat' split
  all_goals omega

/-- A rate step ends at the target or strictly nearer to it (R5). -/
theorem rateStep_between {q qt slew m : Int} (h : 0 ≤ slew) (hq : mag q ≤ m) (ht : mag qt ≤ m) : mag (rateStep q qt slew) ≤ m := by
  unfold rateStep
  rw [mag_le] at *
  split
  · exact ht
  · next far =>
      rw [mag_le] at far
      split <;> omega

theorem nextPattern_range (k : Nat) : 1 ≤ nextPattern k ∧ nextPattern k ≤ 16 := by
  unfold nextPattern; omega

/-! ## The integer square root (00_scope 1.5.6) -/

theorem isqrtDigits_spec (k n r : Nat) (lo : r * r ≤ n) (hi : n < (r + 2 ^ k) * (r + 2 ^ k)) :
    isqrtDigits k n r * isqrtDigits k n r ≤ n ∧ n < (isqrtDigits k n r + 1) * (isqrtDigits k n r + 1) := by
  induction k generalizing r with
  | zero => exact ⟨lo, hi⟩
  | succ k ih =>
      have two : r + 2 ^ (k + 1) = r + 2 ^ k + 2 ^ k := by rw [Nat.pow_succ]; omega
      rw [isqrtDigits]
      split
      · next le => exact ih _ le (two ▸ hi)
      · next gt => exact ih _ lo (by omega)

/-- isqrt(n) is the greatest integer whose square does not exceed n. -/
theorem isqrt_spec (n : Nat) : isqrt n * isqrt n ≤ n ∧ n < (isqrt n + 1) * (isqrt n + 1) := by
  refine isqrtDigits_spec _ n 0 (by omega) ?_
  have lt : n < 2 ^ (n.log2 + 1) := Nat.lt_log2_self
  have le : 2 ^ (n.log2 + 1) ≤ 2 ^ ((n.log2 / 2 + 1) + (n.log2 / 2 + 1)) := Nat.pow_le_pow_right (by omega) (by omega)
  rw [Nat.zero_add, ← Nat.pow_add]
  exact Nat.lt_of_lt_of_le lt le

end Sys2Proof.Machine
end

