-- ==== Sys2Proof/Laws/Bytes.lean ====
section
/-! SUPPORT. Fields of bytes: lengths, and reading back what was written. -/

namespace Sys2Proof.Machine

@[simp] theorem natBytes_length (k n : Nat) : (natBytes k n).length = k := by
  induction k generalizing n with
  | zero => rfl
  | succ k ih => simp [natBytes, ih]

@[simp] theorem intBytes_length (k : Nat) (x : Int) : (intBytes k x).length = k := by simp [intBytes]

theorem beNat_append_one (bs : List Byte) (b : Byte) : beNat (bs ++ [b]) = beNat bs * 256 + b.toNat := by
  simp [beNat, List.foldl_append]

theorem beNat_natBytes (k n : Nat) : beNat (natBytes k n) = n % 256 ^ k := by
  induction k generalizing n with
  | zero => simp [natBytes, beNat, Nat.mod_one]
  | succ k ih =>
      rw [natBytes, beNat_append_one, ih, BitVec.toNat_ofNat]
      have e : 256 ^ (k + 1) = 256 * 256 ^ k := by rw [Nat.pow_succ, Nat.mul_comm]
      rw [e, Nat.mod_mul]
      omega

theorem beNat_natBytes_of_lt {k n : Nat} (h : n < 256 ^ k) : beNat (natBytes k n) = n := by
  rw [beNat_natBytes, Nat.mod_eq_of_lt h]

theorem beNat_foldl (bs : List Byte) (n : Nat) :
    bs.foldl (fun n b => n * 256 + b.toNat) n = n * 256 ^ bs.length + beNat bs := by
  induction bs generalizing n with
  | nil => simp [beNat]
  | cons b bs ih =>
      have one := ih (n * 256 + b.toNat)
      have two := ih b.toNat
      simp only [beNat, List.foldl_cons, List.length_cons, Nat.zero_mul, Nat.zero_add] at *
      rw [one, two, Nat.pow_succ, Nat.add_mul, Nat.mul_assoc, Nat.mul_comm 256, Nat.add_assoc]

theorem beNat_cons (b : Byte) (bs : List Byte) : beNat (b :: bs) = b.toNat * 256 ^ bs.length + beNat bs := by
  simpa [beNat] using beNat_foldl bs b.toNat

theorem beNat_lt (bs : List Byte) : beNat bs < 256 ^ bs.length := by
  induction bs with
  | nil => simp [beNat]
  | cons b bs ih =>
      have := b.isLt
      have le : b.toNat * 256 ^ bs.length ≤ 255 * 256 ^ bs.length := Nat.mul_le_mul_right _ (by omega)
      rw [beNat_cons, List.length_cons, Nat.pow_succ]
      omega

theorem beInt_intBytes {k : Nat} {x : Int} (hk : k ≠ 0) (lo : -((256 ^ k / 2 : Nat) : Int) ≤ x)
    (hi : x < ((256 ^ k / 2 : Nat) : Int)) : beInt (intBytes k x) = x := by
  have even : 256 ^ k = 2 * (256 ^ k / 2) := by
    obtain ⟨j, rfl⟩ := Nat.exists_eq_succ_of_ne_zero hk
    rw [Nat.pow_succ]; omega
  generalize hm : 256 ^ k / 2 = m at *
  have pos : 0 < m := by
    have : 0 < 256 ^ k := Nat.pow_pos (by omega)
    omega
  have cast : ((256 ^ k : Nat) : Int) = 2 * (m : Int) := by rw [even]; push_cast; rfl
  unfold beInt
  simp only [intBytes_length]
  rw [intBytes, beNat_natBytes, cast, hm]
  by_cases neg : x < 0
  · have e : x % (2 * (m : Int)) = x + 2 * m := by
      rw [← Int.add_mul_emod_self_left x (2 * (m : Int)) 1]
      rw [Int.emod_eq_of_lt (by omega) (by omega)]; omega
    rw [e, Nat.mod_eq_of_lt (by rw [even]; omega), if_neg (by omega)]
    omega
  · rw [Int.emod_eq_of_lt (by omega) (by omega), Nat.mod_eq_of_lt (by rw [even]; omega), if_pos (by omega)]
    omega

/-- An unsigned field written as an integer reads back. -/
theorem beNat_intBytes {k : Nat} {x : Int} (lo : 0 ≤ x) (hi : x < ((256 ^ k : Nat) : Int)) :
    (beNat (intBytes k x) : Int) = x := by
  rw [intBytes, beNat_natBytes, Int.emod_eq_of_lt lo hi, Nat.mod_eq_of_lt (by omega)]
  omega

@[simp] theorem beNat_singleton (b : Byte) : beNat [b] = b.toNat := by simp [beNat]

theorem slice_append_left {a b : List Byte} {k : Nat} (h : a.length = k) : slice (a ++ b) 0 k = a := by
  simp [slice, ← h]

theorem slice_append_right {a b : List Byte} {i j k : Nat} (h : a.length = i) : slice (a ++ b) (i + j) k = slice b j k := by
  subst h
  rw [slice, slice, ← List.drop_drop, List.drop_left]

@[simp] theorem encodeSegment_length (g : Segment) : (encodeSegment g).length = segmentBytes := by
  simp [encodeSegment, segmentBytes]

@[simp] theorem encodeDescriptor_length (d : Descriptor) : (encodeDescriptor d).length = descriptorBytes := by
  simp [encodeDescriptor, descriptorBytes]

@[simp] theorem encodeItem_length (id : Nat) (v : Int) : (encodeItem id v).length = itemBytes := by
  simp [encodeItem, itemBytes]

/-- Cutting a list of encoded records of one length into records gives the records. -/
theorem chunks_flatMap {α : Type} (enc : α → List Byte) (k : Nat) (h : ∀ x, (enc x).length = k) (xs : List α) :
    chunks k xs.length (xs.flatMap enc) = xs.map enc := by
  induction xs with
  | nil => rfl
  | cons x xs ih => simp only [List.flatMap_cons, List.length_cons, chunks, List.map_cons, ← h x, List.take_left, List.drop_left]; simp only [h x, ih]

end Sys2Proof.Machine
end

