-- ==== Sys2Proof/Laws/State.lean ====
section
/-! SUPPORT. What each named update of the state writes and what it leaves, field by field, so that no proof unfolds an update. -/

namespace Sys2Proof.Machine.State

section setAxisFields

variable (s : State) (a : Fin Config.axisCount) (x : Axis)

@[simp] theorem setAxis_clock : (s.setAxis a x).clock = s.clock := rfl
@[simp] theorem setAxis_eval : (s.setAxis a x).eval = s.eval := rfl
@[simp] theorem setAxis_store : (s.setAxis a x).store = s.store := rfl
@[simp] theorem setAxis_bodies : (s.setAxis a x).bodies = s.bodies := rfl
@[simp] theorem setAxis_site : (s.setAxis a x).site = s.site := rfl
@[simp] theorem setAxis_axes : (s.setAxis a x).axes = s.axes.set a.val x a.isLt := rfl
@[simp] theorem setAxis_cycle : (s.setAxis a x).cycle = s.cycle := rfl
@[simp] theorem setAxis_cues : (s.setAxis a x).cues = s.cues := rfl
@[simp] theorem setAxis_ring : (s.setAxis a x).ring = s.ring := rfl
@[simp] theorem setAxis_mgmt : (s.setAxis a x).mgmt = s.mgmt := rfl
@[simp] theorem setAxis_notices : (s.setAxis a x).notices = s.notices := rfl
@[simp] theorem setAxis_freeCount : (s.setAxis a x).freeCount = s.freeCount := rfl
@[simp] theorem setAxis_pending : (s.setAxis a x).pending = s.pending := rfl

end setAxisFields

section setBodyFields

variable (s : State) (b : Fin Config.bodyCount) (x : Body)

@[simp] theorem setBody_clock : (s.setBody b x).clock = s.clock := rfl
@[simp] theorem setBody_eval : (s.setBody b x).eval = s.eval := rfl
@[simp] theorem setBody_store : (s.setBody b x).store = s.store := rfl
@[simp] theorem setBody_bodies : (s.setBody b x).bodies = s.bodies.set b.val x b.isLt := rfl
@[simp] theorem setBody_site : (s.setBody b x).site = s.site := rfl
@[simp] theorem setBody_axes : (s.setBody b x).axes = s.axes := rfl
@[simp] theorem setBody_cycle : (s.setBody b x).cycle = s.cycle := rfl
@[simp] theorem setBody_cues : (s.setBody b x).cues = s.cues := rfl
@[simp] theorem setBody_ring : (s.setBody b x).ring = s.ring := rfl
@[simp] theorem setBody_mgmt : (s.setBody b x).mgmt = s.mgmt := rfl
@[simp] theorem setBody_notices : (s.setBody b x).notices = s.notices := rfl
@[simp] theorem setBody_freeCount : (s.setBody b x).freeCount = s.freeCount := rfl
@[simp] theorem setBody_pending : (s.setBody b x).pending = s.pending := rfl

end setBodyFields

section setChannelFields

variable (s : State) (c : Fin Config.channelCount) (x : Channel)

@[simp] theorem setChannel_clock : (s.setChannel c x).clock = s.clock := rfl
@[simp] theorem setChannel_eval : (s.setChannel c x).eval = s.eval := rfl
@[simp] theorem setChannel_store : (s.setChannel c x).store = s.store := rfl
@[simp] theorem setChannel_bodies : (s.setChannel c x).bodies = s.bodies := rfl
@[simp] theorem setChannel_site : (s.setChannel c x).site = s.site := rfl
@[simp] theorem setChannel_axes : (s.setChannel c x).axes = s.axes := rfl
@[simp] theorem setChannel_cycle : (s.setChannel c x).cycle = s.cycle := rfl
@[simp] theorem setChannel_cues : (s.setChannel c x).cues = { s.cues with channels := s.cues.channels.set c.val x c.isLt } := rfl
@[simp] theorem setChannel_ring : (s.setChannel c x).ring = s.ring := rfl
@[simp] theorem setChannel_mgmt : (s.setChannel c x).mgmt = s.mgmt := rfl
@[simp] theorem setChannel_notices : (s.setChannel c x).notices = s.notices := rfl
@[simp] theorem setChannel_freeCount : (s.setChannel c x).freeCount = s.freeCount := rfl
@[simp] theorem setChannel_pending : (s.setChannel c x).pending = s.pending := rfl

end setChannelFields

section setBankFields

variable (s : State) (b : Fin 2) (x : Bank)

@[simp] theorem setBank_clock : (s.setBank b x).clock = s.clock := rfl
@[simp] theorem setBank_eval : (s.setBank b x).eval = s.eval := rfl
@[simp] theorem setBank_store : (s.setBank b x).store = { s.store with banks := s.store.banks.set b.val x b.isLt } := rfl
@[simp] theorem setBank_bodies : (s.setBank b x).bodies = s.bodies := rfl
@[simp] theorem setBank_site : (s.setBank b x).site = s.site := rfl
@[simp] theorem setBank_axes : (s.setBank b x).axes = s.axes := rfl
@[simp] theorem setBank_cycle : (s.setBank b x).cycle = s.cycle := rfl
@[simp] theorem setBank_cues : (s.setBank b x).cues = s.cues := rfl
@[simp] theorem setBank_ring : (s.setBank b x).ring = s.ring := rfl
@[simp] theorem setBank_mgmt : (s.setBank b x).mgmt = s.mgmt := rfl
@[simp] theorem setBank_notices : (s.setBank b x).notices = s.notices := rfl
@[simp] theorem setBank_freeCount : (s.setBank b x).freeCount = s.freeCount := rfl
@[simp] theorem setBank_pending : (s.setBank b x).pending = s.pending := rfl

end setBankFields

section addTriggersFields

variable (s : State) (ts : List Trigger)

@[simp] theorem addTriggers_clock : (s.addTriggers ts).clock = s.clock := rfl
@[simp] theorem addTriggers_eval : (s.addTriggers ts).eval = s.eval.map fun e => { e with triggers := e.triggers ++ ts } := rfl
@[simp] theorem addTriggers_store : (s.addTriggers ts).store = s.store := rfl
@[simp] theorem addTriggers_bodies : (s.addTriggers ts).bodies = s.bodies := rfl
@[simp] theorem addTriggers_site : (s.addTriggers ts).site = s.site := rfl
@[simp] theorem addTriggers_axes : (s.addTriggers ts).axes = s.axes := rfl
@[simp] theorem addTriggers_cycle : (s.addTriggers ts).cycle = s.cycle := rfl
@[simp] theorem addTriggers_cues : (s.addTriggers ts).cues = s.cues := rfl
@[simp] theorem addTriggers_ring : (s.addTriggers ts).ring = s.ring := rfl
@[simp] theorem addTriggers_mgmt : (s.addTriggers ts).mgmt = s.mgmt := rfl
@[simp] theorem addTriggers_notices : (s.addTriggers ts).notices = s.notices := rfl
@[simp] theorem addTriggers_freeCount : (s.addTriggers ts).freeCount = s.freeCount := rfl
@[simp] theorem addTriggers_pending : (s.addTriggers ts).pending = s.pending := rfl

end addTriggersFields

section setStageFields

variable (s : State) (g : Stage)

@[simp] theorem setStage_clock : (s.setStage g).clock = s.clock := rfl
@[simp] theorem setStage_eval : (s.setStage g).eval = s.eval.map fun e => { e with stage := g } := rfl
@[simp] theorem setStage_store : (s.setStage g).store = s.store := rfl
@[simp] theorem setStage_bodies : (s.setStage g).bodies = s.bodies := rfl
@[simp] theorem setStage_site : (s.setStage g).site = s.site := rfl
@[simp] theorem setStage_axes : (s.setStage g).axes = s.axes := rfl
@[simp] theorem setStage_cycle : (s.setStage g).cycle = s.cycle := rfl
@[simp] theorem setStage_cues : (s.setStage g).cues = s.cues := rfl
@[simp] theorem setStage_ring : (s.setStage g).ring = s.ring := rfl
@[simp] theorem setStage_mgmt : (s.setStage g).mgmt = s.mgmt := rfl
@[simp] theorem setStage_notices : (s.setStage g).notices = s.notices := rfl
@[simp] theorem setStage_freeCount : (s.setStage g).freeCount = s.freeCount := rfl
@[simp] theorem setStage_pending : (s.setStage g).pending = s.pending := rfl

end setStageFields

section raiseFields

variable (s : State) (k : NoticeKind) (i : Nat) (d : Detail)

@[simp] theorem raise_clock : (s.raise k i d).clock = s.clock := rfl
@[simp] theorem raise_eval : (s.raise k i d).eval = s.eval := rfl
@[simp] theorem raise_store : (s.raise k i d).store = s.store := rfl
@[simp] theorem raise_bodies : (s.raise k i d).bodies = s.bodies := rfl
@[simp] theorem raise_site : (s.raise k i d).site = s.site := rfl
@[simp] theorem raise_axes : (s.raise k i d).axes = s.axes := rfl
@[simp] theorem raise_cycle : (s.raise k i d).cycle = s.cycle := rfl
@[simp] theorem raise_cues : (s.raise k i d).cues = s.cues := rfl
@[simp] theorem raise_ring : (s.raise k i d).ring = s.ring := rfl
@[simp] theorem raise_mgmt : (s.raise k i d).mgmt = s.mgmt := rfl
@[simp] theorem raise_notices : (s.raise k i d).notices = raiseInto k i d s.notices := rfl
@[simp] theorem raise_freeCount : (s.raise k i d).freeCount = s.freeCount := rfl
@[simp] theorem raise_pending : (s.raise k i d).pending = s.pending := rfl

end raiseFields

section answerFields

variable (s : State) (r : Request) (k : ReplyCode) (d : List Byte)

@[simp] theorem answer_clock : (s.answer r k d).clock = s.clock := rfl
@[simp] theorem answer_eval : (s.answer r k d).eval = s.eval := rfl
@[simp] theorem answer_store : (s.answer r k d).store = s.store := rfl
@[simp] theorem answer_bodies : (s.answer r k d).bodies = s.bodies := rfl
@[simp] theorem answer_site : (s.answer r k d).site = s.site := rfl
@[simp] theorem answer_axes : (s.answer r k d).axes = s.axes := rfl
@[simp] theorem answer_cycle : (s.answer r k d).cycle = s.cycle := rfl
@[simp] theorem answer_cues : (s.answer r k d).cues = s.cues := rfl
@[simp] theorem answer_ring : (s.answer r k d).ring = s.ring := rfl
@[simp] theorem answer_mgmt : (s.answer r k d).mgmt =
    { s.mgmt with requests := s.mgmt.requests.tail, replies := s.mgmt.replies ++ [{ tag := r.tag, code := r.code, result := k, content := d }] } := rfl
@[simp] theorem answer_notices : (s.answer r k d).notices = s.notices := rfl
@[simp] theorem answer_freeCount : (s.answer r k d).freeCount = s.freeCount := rfl
@[simp] theorem answer_pending : (s.answer r k d).pending = s.pending := rfl

end answerFields

section handOverFields

variable (s : State) (f : Frame)

@[simp] theorem handOver_clock : (s.handOver f).clock = s.clock := rfl
@[simp] theorem handOver_eval : (s.handOver f).eval = s.eval := rfl
@[simp] theorem handOver_store : (s.handOver f).store = s.store := rfl
@[simp] theorem handOver_bodies : (s.handOver f).bodies = s.bodies := rfl
@[simp] theorem handOver_site : (s.handOver f).site = s.site := rfl
@[simp] theorem handOver_axes : (s.handOver f).axes = s.axes := rfl
@[simp] theorem handOver_cycle : (s.handOver f).cycle = s.cycle := rfl
@[simp] theorem handOver_cues : (s.handOver f).cues = s.cues := rfl
@[simp] theorem handOver_ring : (s.handOver f).ring =
    { s.ring with setpoints := (if s.ring.setpoints.length < Config.bufferSize then s.ring.setpoints else s.ring.setpoints.tail) ++ [f] } := rfl
@[simp] theorem handOver_mgmt : (s.handOver f).mgmt = s.mgmt := rfl
@[simp] theorem handOver_notices : (s.handOver f).notices = s.notices := rfl
@[simp] theorem handOver_freeCount : (s.handOver f).freeCount = s.freeCount := rfl
@[simp] theorem handOver_pending : (s.handOver f).pending = s.pending := rfl

end handOverFields

section writeRateFields

variable (s : State) (q g : Int)

@[simp] theorem writeRate_clock : (s.writeRate q g).clock = { s.clock with target := q, slew := g } := rfl
@[simp] theorem writeRate_eval : (s.writeRate q g).eval = s.eval := rfl
@[simp] theorem writeRate_store : (s.writeRate q g).store = s.store := rfl
@[simp] theorem writeRate_bodies : (s.writeRate q g).bodies = s.bodies := rfl
@[simp] theorem writeRate_site : (s.writeRate q g).site = s.site := rfl
@[simp] theorem writeRate_axes : (s.writeRate q g).axes = s.axes := rfl
@[simp] theorem writeRate_cycle : (s.writeRate q g).cycle = s.cycle := rfl
@[simp] theorem writeRate_cues : (s.writeRate q g).cues = s.cues := rfl
@[simp] theorem writeRate_ring : (s.writeRate q g).ring = s.ring := rfl
@[simp] theorem writeRate_mgmt : (s.writeRate q g).mgmt = s.mgmt := rfl
@[simp] theorem writeRate_notices : (s.writeRate q g).notices = s.notices := rfl
@[simp] theorem writeRate_freeCount : (s.writeRate q g).freeCount = s.freeCount := rfl
@[simp] theorem writeRate_pending : (s.writeRate q g).pending = s.pending := rfl

end writeRateFields

section writeEpochWatchFields

variable (s : State) (d : Int) (n : Bool)

@[simp] theorem writeEpochWatch_clock : (s.writeEpochWatch d n).clock = { s.clock with watchDay := d, watchEnabled := n } := rfl
@[simp] theorem writeEpochWatch_eval : (s.writeEpochWatch d n).eval = s.eval := rfl
@[simp] theorem writeEpochWatch_store : (s.writeEpochWatch d n).store = s.store := rfl
@[simp] theorem writeEpochWatch_bodies : (s.writeEpochWatch d n).bodies = s.bodies := rfl
@[simp] theorem writeEpochWatch_site : (s.writeEpochWatch d n).site = s.site := rfl
@[simp] theorem writeEpochWatch_axes : (s.writeEpochWatch d n).axes = s.axes := rfl
@[simp] theorem writeEpochWatch_cycle : (s.writeEpochWatch d n).cycle = s.cycle := rfl
@[simp] theorem writeEpochWatch_cues : (s.writeEpochWatch d n).cues = s.cues := rfl
@[simp] theorem writeEpochWatch_ring : (s.writeEpochWatch d n).ring = s.ring := rfl
@[simp] theorem writeEpochWatch_mgmt : (s.writeEpochWatch d n).mgmt = s.mgmt := rfl
@[simp] theorem writeEpochWatch_notices : (s.writeEpochWatch d n).notices = s.notices := rfl
@[simp] theorem writeEpochWatch_freeCount : (s.writeEpochWatch d n).freeCount = s.freeCount := rfl
@[simp] theorem writeEpochWatch_pending : (s.writeEpochWatch d n).pending = s.pending := rfl

end writeEpochWatchFields

/-! ## Reading back -/

theorem get_eq {α : Type} {n : Nat} (v : Vector α n) (i : Fin n) : v.get i = v[i.val] := rfl

@[simp] theorem axis_setAxis_same (s : State) (a : Fin Config.axisCount) (x : Axis) : (s.setAxis a x).axis a = x := by
  simp [State.axis, State.setAxis, get_eq]

theorem axis_setAxis_of_ne (s : State) (a b : Fin Config.axisCount) (x : Axis) (h : b ≠ a) :
    (s.setAxis a x).axis b = s.axis b := by
  have : a.val ≠ b.val := fun e => h (Fin.ext e.symm)
  simp [State.axis, State.setAxis, get_eq, this]

theorem axis_setAxis (s : State) (a b : Fin Config.axisCount) (x : Axis) :
    (s.setAxis a x).axis b = if b = a then x else s.axis b := by
  split
  · next h => subst h; simp
  · next h => exact axis_setAxis_of_ne s a b x h

@[simp] theorem body_setBody_same (s : State) (b : Fin Config.bodyCount) (x : Body) : (s.setBody b x).body b = x := by
  simp [State.body, State.setBody, get_eq]

theorem body_setBody_of_ne (s : State) (b c : Fin Config.bodyCount) (x : Body) (h : c ≠ b) :
    (s.setBody b x).body c = s.body c := by
  have : b.val ≠ c.val := fun e => h (Fin.ext e.symm)
  simp [State.body, State.setBody, get_eq, this]

@[simp] theorem channel_setChannel_same (s : State) (c : Fin Config.channelCount) (x : Channel) :
    (s.setChannel c x).channel c = x := by
  simp [State.channel, State.setChannel, get_eq]

theorem channel_setChannel_of_ne (s : State) (c d : Fin Config.channelCount) (x : Channel) (h : d ≠ c) :
    (s.setChannel c x).channel d = s.channel d := by
  have : c.val ≠ d.val := fun e => h (Fin.ext e.symm)
  simp [State.channel, State.setChannel, get_eq, this]

@[simp] theorem bank_setBank_same (s : State) (b : Fin 2) (x : Bank) : (s.setBank b x).bank b = x := by
  simp [State.bank, State.setBank, get_eq]

theorem bank_setBank_of_ne (s : State) (b c : Fin 2) (x : Bank) (h : c ≠ b) : (s.setBank b x).bank c = s.bank c := by
  have : b.val ≠ c.val := fun e => h (Fin.ext e.symm)
  simp [State.bank, State.setBank, get_eq, this]

/-! ## What reads only one part of the state -/

@[simp] theorem axis_setBody (s : State) (b' : Fin Config.bodyCount) (x : Body) (a : Fin Config.axisCount) :
    (s.setBody b' x).axis a = s.axis a := rfl
@[simp] theorem axis_setChannel (s : State) (c' : Fin Config.channelCount) (x : Channel) (a : Fin Config.axisCount) :
    (s.setChannel c' x).axis a = s.axis a := rfl
@[simp] theorem axis_setBank (s : State) (b' : Fin 2) (x : Bank) (a : Fin Config.axisCount) :
    (s.setBank b' x).axis a = s.axis a := rfl
@[simp] theorem axis_addTriggers (s : State) (ts : List Trigger) (a : Fin Config.axisCount) :
    (s.addTriggers ts).axis a = s.axis a := rfl
@[simp] theorem axis_setStage (s : State) (g : Stage) (a : Fin Config.axisCount) : (s.setStage g).axis a = s.axis a := rfl
@[simp] theorem axis_raise (s : State) (k : NoticeKind) (i : Nat) (d : Detail) (a : Fin Config.axisCount) :
    (s.raise k i d).axis a = s.axis a := rfl
@[simp] theorem axis_answer (s : State) (r : Request) (k : ReplyCode) (d : List Byte) (a : Fin Config.axisCount) :
    (s.answer r k d).axis a = s.axis a := rfl
@[simp] theorem axis_handOver (s : State) (f : Frame) (a : Fin Config.axisCount) : (s.handOver f).axis a = s.axis a := rfl
@[simp] theorem axis_writeRate (s : State) (q g : Int) (a : Fin Config.axisCount) : (s.writeRate q g).axis a = s.axis a := rfl
@[simp] theorem axis_writeEpochWatch (s : State) (d : Int) (n : Bool) (a : Fin Config.axisCount) :
    (s.writeEpochWatch d n).axis a = s.axis a := rfl
@[simp] theorem body_setAxis (s : State) (a' : Fin Config.axisCount) (x : Axis) (a : Fin Config.bodyCount) :
    (s.setAxis a' x).body a = s.body a := rfl
@[simp] theorem body_setChannel (s : State) (c' : Fin Config.channelCount) (x : Channel) (a : Fin Config.bodyCount) :
    (s.setChannel c' x).body a = s.body a := rfl
@[simp] theorem body_setBank (s : State) (b' : Fin 2) (x : Bank) (a : Fin Config.bodyCount) :
    (s.setBank b' x).body a = s.body a := rfl
@[simp] theorem body_addTriggers (s : State) (ts : List Trigger) (a : Fin Config.bodyCount) :
    (s.addTriggers ts).body a = s.body a := rfl
@[simp] theorem body_setStage (s : State) (g : Stage) (a : Fin Config.bodyCount) : (s.setStage g).body a = s.body a := rfl
@[simp] theorem body_raise (s : State) (k : NoticeKind) (i : Nat) (d : Detail) (a : Fin Config.bodyCount) :
    (s.raise k i d).body a = s.body a := rfl
@[simp] theorem body_answer (s : State) (r : Request) (k : ReplyCode) (d : List Byte) (a : Fin Config.bodyCount) :
    (s.answer r k d).body a = s.body a := rfl
@[simp] theorem body_handOver (s : State) (f : Frame) (a : Fin Config.bodyCount) : (s.handOver f).body a = s.body a := rfl
@[simp] theorem body_writeRate (s : State) (q g : Int) (a : Fin Config.bodyCount) : (s.writeRate q g).body a = s.body a := rfl
@[simp] theorem body_writeEpochWatch (s : State) (d : Int) (n : Bool) (a : Fin Config.bodyCount) :
    (s.writeEpochWatch d n).body a = s.body a := rfl
@[simp] theorem channel_setAxis (s : State) (a' : Fin Config.axisCount) (x : Axis) (a : Fin Config.channelCount) :
    (s.setAxis a' x).channel a = s.channel a := rfl
@[simp] theorem channel_setBody (s : State) (b' : Fin Config.bodyCount) (x : Body) (a : Fin Config.channelCount) :
    (s.setBody b' x).channel a = s.channel a := rfl
@[simp] theorem channel_setBank (s : State) (b' : Fin 2) (x : Bank) (a : Fin Config.channelCount) :
    (s.setBank b' x).channel a = s.channel a := rfl
@[simp] theorem channel_addTriggers (s : State) (ts : List Trigger) (a : Fin Config.channelCount) :
    (s.addTriggers ts).channel a = s.channel a := rfl
@[simp] theorem channel_setStage (s : State) (g : Stage) (a : Fin Config.channelCount) :
    (s.setStage g).channel a = s.channel a := rfl
@[simp] theorem channel_raise (s : State) (k : NoticeKind) (i : Nat) (d : Detail) (a : Fin Config.channelCount) :
    (s.raise k i d).channel a = s.channel a := rfl
@[simp] theorem channel_answer (s : State) (r : Request) (k : ReplyCode) (d : List Byte) (a : Fin Config.channelCount) :
    (s.answer r k d).channel a = s.channel a := rfl
@[simp] theorem channel_handOver (s : State) (f : Frame) (a : Fin Config.channelCount) :
    (s.handOver f).channel a = s.channel a := rfl
@[simp] theorem channel_writeRate (s : State) (q g : Int) (a : Fin Config.channelCount) :
    (s.writeRate q g).channel a = s.channel a := rfl
@[simp] theorem channel_writeEpochWatch (s : State) (d : Int) (n : Bool) (a : Fin Config.channelCount) :
    (s.writeEpochWatch d n).channel a = s.channel a := rfl
@[simp] theorem bank_setAxis (s : State) (a' : Fin Config.axisCount) (x : Axis) (a : Fin 2) :
    (s.setAxis a' x).bank a = s.bank a := rfl
@[simp] theorem bank_setBody (s : State) (b' : Fin Config.bodyCount) (x : Body) (a : Fin 2) :
    (s.setBody b' x).bank a = s.bank a := rfl
@[simp] theorem bank_setChannel (s : State) (c' : Fin Config.channelCount) (x : Channel) (a : Fin 2) :
    (s.setChannel c' x).bank a = s.bank a := rfl
@[simp] theorem bank_addTriggers (s : State) (ts : List Trigger) (a : Fin 2) : (s.addTriggers ts).bank a = s.bank a := rfl
@[simp] theorem bank_setStage (s : State) (g : Stage) (a : Fin 2) : (s.setStage g).bank a = s.bank a := rfl
@[simp] theorem bank_raise (s : State) (k : NoticeKind) (i : Nat) (d : Detail) (a : Fin 2) :
    (s.raise k i d).bank a = s.bank a := rfl
@[simp] theorem bank_answer (s : State) (r : Request) (k : ReplyCode) (d : List Byte) (a : Fin 2) :
    (s.answer r k d).bank a = s.bank a := rfl
@[simp] theorem bank_handOver (s : State) (f : Frame) (a : Fin 2) : (s.handOver f).bank a = s.bank a := rfl
@[simp] theorem bank_writeRate (s : State) (q g : Int) (a : Fin 2) : (s.writeRate q g).bank a = s.bank a := rfl
@[simp] theorem bank_writeEpochWatch (s : State) (d : Int) (n : Bool) (a : Fin 2) :
    (s.writeEpochWatch d n).bank a = s.bank a := rfl

/-- Every axis is read from the vector of axes alone; the same for bodies, channels and banks. -/
theorem axis_congr (s t : State) (h : t.axes = s.axes) (a : Fin Config.axisCount) : t.axis a = s.axis a := by
  simp [State.axis, h]

end Sys2Proof.Machine.State
end

