-- ==== Sys2Proof/Laws/Ops.lean ====
section
/-! SUPPORT. What each shared operation can do, said once: the end of a step, the execution of a request, a raise, a fault cause, and
the tests of the stores and of an axis. -/

namespace Sys2Proof.Machine

/-! ## Line-only changes -/

theorem LineOnly.refl (s : State) : LineOnly s s :=
  ⟨rfl, rfl, rfl, rfl, rfl, fun _ => rfl, rfl, rfl, rfl, rfl, rfl, rfl, rfl, rfl⟩

theorem LineOnly.trans {s t u : State} (a : LineOnly s t) (b : LineOnly t u) : LineOnly s u :=
  ⟨b.clock.trans a.clock, b.eval.trans a.eval, b.store.trans a.store, b.bodies.trans a.bodies, b.site.trans a.site,
    fun x => (b.axes x).trans (a.axes x), b.cycle.trans a.cycle, b.cues.trans a.cues, b.mode.trans a.mode,
    b.freeCredits.trans a.freeCredits, b.errorsU.trans a.errorsU, b.errorsD.trans a.errorsD, b.freeCount.trans a.freeCount,
    b.pending.trans a.pending⟩

/-- The reported image is the one part of an axis that the sending of its SWITCH notice writes. -/
theorem butReported_setReported (x : Axis) (i : Switches) :
    Axis.butReported { x with drive := { x.drive with reported := i } } = x.butReported := rfl

theorem chooseD_lineOnly (s : State) : LineOnly s s.chooseD := by
  unfold State.chooseD
  split
  · exact ⟨rfl, rfl, rfl, rfl, rfl, fun _ => rfl, rfl, rfl, rfl, rfl, rfl, rfl, rfl, rfl⟩
  · split
    · exact ⟨rfl, rfl, rfl, rfl, rfl, fun _ => rfl, rfl, rfl, rfl, rfl, rfl, rfl, rfl, rfl⟩
    · exact LineOnly.refl s

theorem axesAfterSending_axis (s : State) (n : Notice) (b : Fin Config.axisCount) :
    ((s.axesAfterSending n).get b).butReported = (s.axis b).butReported := by
  unfold State.axesAfterSending
  split
  · next a _ =>
      by_cases h : b = a
      · subst h
        exact (congrArg Axis.butReported (State.axis_setAxis_same s b _)).trans (butReported_setReported (s.axis b) _)
      · exact congrArg Axis.butReported (State.axis_setAxis_of_ne s a b _ h)
  · rfl

theorem sendNotice_lineOnly (s : State) (n : Notice) : LineOnly s (s.sendNotice n) :=
  ⟨rfl, rfl, rfl, rfl, rfl, axesAfterSending_axis s n, rfl, rfl, rfl, rfl, rfl, rfl, rfl, rfl⟩

theorem chooseU_lineOnly (s : State) : LineOnly s s.chooseU := by
  unfold State.chooseU
  split
  · exact ⟨rfl, rfl, rfl, rfl, rfl, fun _ => rfl, rfl, rfl, rfl, rfl, rfl, rfl, rfl, rfl⟩
  · split
    · exact sendNotice_lineOnly s _
    · split
      · exact ⟨rfl, rfl, rfl, rfl, rfl, fun _ => rfl, rfl, rfl, rfl, rfl, rfl, rfl, rfl, rfl⟩
      · split
        · exact sendNotice_lineOnly s _
        · exact LineOnly.refl s

/-- The end of a step changes nothing but the line's own state. -/
theorem settle_lineOnly (s : State) : LineOnly s s.settle := by
  have d : LineOnly s s.startD := by unfold State.startD; split; exact chooseD_lineOnly s; exact LineOnly.refl s
  have u : LineOnly s.startD s.startD.startU := by
    generalize s.startD = t
    unfold State.startU; split; exact chooseU_lineOnly t; exact LineOnly.refl t
  exact d.trans u

namespace State

variable (s : State)

@[simp] theorem settle_clock : s.settle.clock = s.clock := (settle_lineOnly s).clock
@[simp] theorem settle_eval : s.settle.eval = s.eval := (settle_lineOnly s).eval
@[simp] theorem settle_store : s.settle.store = s.store := (settle_lineOnly s).store
@[simp] theorem settle_bodies : s.settle.bodies = s.bodies := (settle_lineOnly s).bodies
@[simp] theorem settle_site : s.settle.site = s.site := (settle_lineOnly s).site
@[simp] theorem settle_cycle : s.settle.cycle = s.cycle := (settle_lineOnly s).cycle
@[simp] theorem settle_cues : s.settle.cues = s.cues := (settle_lineOnly s).cues
@[simp] theorem settle_mode : s.settle.mgmt.mode = s.mgmt.mode := (settle_lineOnly s).mode
@[simp] theorem settle_freeCredits : s.settle.mgmt.freeCredits = s.mgmt.freeCredits := (settle_lineOnly s).freeCredits
@[simp] theorem settle_errorsU : s.settle.ring.errorsU = s.ring.errorsU := (settle_lineOnly s).errorsU
@[simp] theorem settle_errorsD : s.settle.ring.errorsD = s.ring.errorsD := (settle_lineOnly s).errorsD
@[simp] theorem settle_freeCount : s.settle.freeCount = s.freeCount := (settle_lineOnly s).freeCount
@[simp] theorem settle_pending : s.settle.pending = s.pending := (settle_lineOnly s).pending

theorem settle_axis (a : Fin Config.axisCount) : (s.settle.axis a).butReported = (s.axis a).butReported :=
  (settle_lineOnly s).axes a

end State

/-! ## What the transmitters take -/

/-- The idle D transmitter's choice leaves the U side, the queues and the notices. -/
theorem startD_other (s : State) :
    s.startD.mgmt = s.mgmt ∧ s.startD.notices = s.notices ∧ s.startD.axes = s.axes ∧
      s.startD.ring.upstream = s.ring.upstream ∧ s.startD.ring.uSending = s.ring.uSending := by
  unfold State.startD State.chooseD
  split
  · split
    · exact ⟨rfl, rfl, rfl, rfl, rfl⟩
    · split <;> exact ⟨rfl, rfl, rfl, rfl, rfl⟩
  · exact ⟨rfl, rfl, rfl, rfl, rfl⟩

/-- The idle U transmitter's choice takes no admitted request, and takes notices only by sending them. -/
theorem chooseU_requests (s : State) : s.chooseU.mgmt.requests = s.mgmt.requests ∧ s.chooseU.notices.Sublist s.notices := by
  unfold State.chooseU
  split
  · exact ⟨rfl, List.Sublist.refl _⟩
  · split
    · exact ⟨rfl, List.filter_sublist⟩
    · split
      · exact ⟨rfl, List.Sublist.refl _⟩
      · split
        · exact ⟨rfl, List.filter_sublist⟩
        · exact ⟨rfl, List.Sublist.refl _⟩

theorem settle_requests (s : State) : s.settle.mgmt.requests = s.mgmt.requests := by
  have d := startD_other s
  unfold State.settle State.startU
  split
  · rw [(chooseU_requests _).1, d.1]
  · rw [d.1]

theorem settle_notices (s : State) : s.settle.notices.Sublist s.notices := by
  have d := startD_other s
  unfold State.settle State.startU
  split
  · exact d.2.1 ▸ (chooseU_requests s.startD).2
  · exact d.2.1 ▸ List.Sublist.refl _

/-! ## Execution of a request -/

/-- A command whose request stands at the head of the queue, and which need not wait, answers a next state. -/
theorem execute_due {mine : Request → Bool} {waits : Bool} {run : Request → State → Answer} {s : State} {r : Request}
    {rest : List Request} (head : s.mgmt.requests = r :: rest) (own : mine r = true) (free : (waits && s.inFlight) = false) :
    execute mine waits run s = .next ((run r s).state.answer r (run r s).result (run r s).content).settle := by
  simp [execute, head, own, free, done]

/-- A command with no request of its own at the head of the queue changes nothing. -/
theorem execute_other {mine : Request → Bool} {waits : Bool} {run : Request → State → Answer} {s : State}
    (other : ∀ r, s.mgmt.requests.head? = some r → mine r = false) : execute mine waits run s = .next s := by
  unfold execute
  split
  · rfl
  · next r _ h => simp [other r (by simp [h]), notDue]

/-- A request held to the access rule changes nothing while an evaluation is in flight (R102). -/
theorem execute_held {mine : Request → Bool} {run : Request → State → Answer} {s : State} (busy : s.inFlight = true) :
    execute mine true run s = .next s := by
  unfold execute
  split
  · rfl
  · simp [busy, notDue]

/-- Every execution answers a next state. -/
theorem execute_next (mine : Request → Bool) (waits : Bool) (run : Request → State → Answer) (s : State) :
    ∃ t, execute mine waits run s = .next t := by
  unfold execute
  split
  · exact ⟨_, rfl⟩
  · split <;> exact ⟨_, rfl⟩

/-! ## Raises (R174) -/

/-- With an entry standing for the key, a raise coalesces into it and moves nothing. -/
theorem raiseInto_standing {kind : NoticeKind} {index : Nat} {detail : Detail} {ns : List Notice}
    (h : ns.any (Notice.hasKey kind index) = true) :
    raiseInto kind index detail ns =
      ns.map fun n => if n.hasKey kind index then { n with count := min 255 (n.count + 1), detail := detail } else n := by
  simp [raiseInto, h]

/-- With none standing, a raise makes the last entry. -/
theorem raiseInto_new {kind : NoticeKind} {index : Nat} {detail : Detail} {ns : List Notice}
    (h : ns.any (Notice.hasKey kind index) = false) :
    raiseInto kind index detail ns = ns ++ [{ kind := kind, index := index, count := 1, detail := detail }] := by
  simp [raiseInto, h]

/-- The keys of the set after a raise: as before, or with the new key last. -/
theorem raiseInto_keys (kind : NoticeKind) (index : Nat) (detail : Detail) (ns : List Notice) :
    (raiseInto kind index detail ns).map (fun n => (n.kind, n.index)) =
      if ns.any (Notice.hasKey kind index) then ns.map fun n => (n.kind, n.index)
      else (ns.map fun n => (n.kind, n.index)) ++ [(kind, index)] := by
  unfold raiseInto
  split
  · rw [List.map_map]
    refine List.map_congr_left fun n _ => ?_
    simp only [Function.comp_apply]
    split <;> rfl
  · simp

/-! ## Fault causes (R116, R117) -/

/-- A fault cause leaves every other axis as it stands. -/
theorem raiseFault_other (s : State) (a b : Fin Config.axisCount) (c : Cause) (h : b ≠ a) :
    ((s.raiseFault a c).1).axis b = s.axis b := by
  have keep : ∀ x, (s.setAxis a x).axis b = s.axis b := fun x => State.axis_setAxis_of_ne s a b x h
  unfold State.raiseFault
  dsimp only
  repeat' split
  all_goals first | rfl | exact keep _

/-- A fault cause changes nothing but the axes and the Notice Set. -/
theorem raiseFault_frame (s : State) (a : Fin Config.axisCount) (c : Cause) :
    (s.raiseFault a c).1 = { s with axes := (s.raiseFault a c).1.axes, notices := (s.raiseFault a c).1.notices } := by
  unfold State.raiseFault
  dsimp only
  repeat' split
  all_goals rfl

/-- An entry stands for a key while one of that kind and index is in the Notice Set (R134, R174). -/
theorem standing_iff (s : State) (kind : NoticeKind) (index : Nat) :
    s.standing kind index = true ↔ ∃ n ∈ s.notices, n.kind = kind ∧ n.index = index := by
  simp [State.standing, Notice.hasKey]

/-! ## Tests of the stores and of an axis -/

/-- The shadow is the other bank (R20). -/
theorem shadow_ne_active (t : Store) : t.shadow ≠ t.active := by
  unfold Store.shadow; split <;> simp_all [eq_comm]

theorem sealed_iff (t : Store) (b : Fin 2) : t.sealed b = true ↔ b ≠ t.active ∧ t.swap ≠ .idle := by simp [Store.sealed]

theorem covers_iff (g : Segment) (day : Int) : g.covers day = true ↔ g.start ≤ day ∧ day < g.start + g.span := by
  simp [Segment.covers]

theorem inLimits_iff (t : Travel) (p : Int) :
    t.inLimits p = true ↔
      (t.kind = .bounded → t.softLow ≤ p ∧ p ≤ t.softHigh) ∧
        (t.kind = .wound → -(t.wind * turn) ≤ p ∧ p ≤ t.wind * turn) := by
  unfold Travel.inLimits Travel.windLimit
  cases t.kind <;> simp [within_iff]

/-- No stop acts on a CONTINUOUS axis (R95). -/
theorem shapeMotion_continuous {x : Axis} (h : x.travel.kind = .continuous) :
    shapeMotion x = { position := angle (x.position + lawVelocity x), velocity := lawVelocity x, stopped := false } := by
  unfold shapeMotion Travel.stopLimits stepPosition
  simp only [h, ite_self]

end Sys2Proof.Machine
end

