-- ==== Sys2Proof/WellFormed.lean ====
section
/-! DEFINITION. Which commands can be given: a received frame has at least one byte. -/

namespace Sys2Proof

/-- A command that can be given. A frame is taken when its last byte has been received (R158), so it has a last byte.
Nothing else about a frame's bytes is asked: a frame that fails its check or its length is a frame the part receives. -/
def Instr.wellFormed : Instr → Bool
  | .uFrameReceived frame => !frame.isEmpty
  | .dFrameReceived frame => !frame.isEmpty
  | .powerOnReset | .cadenceLoss | .localSync | .bodyEvaluation | .targetMapping | .axisShaping | .setpointEmission
  | .occurrenceService | .dTransmitEnd | .uTransmitEnd | .unknownRequest | .readStatus | .setEpoch | .setRate
  | .setEpochWatch | .setCadence | .setSite | .readAxis | .writeAxis | .enable | .disable | .home | .track | .stop
  | .clearFault | .readBody | .writeBody | .loadSegments | .readSegments | .swapBanks | .cancelSwap | .writeCues
  | .writeChannel | .armChannel | .disarmChannel | .enterShow | .enterSetup | .softReset | .axisCommand => true

end Sys2Proof
end

