-- ==== Sys2Proof/Laws/PerInstr.lean ====
section
/-! SUPPORT. Claims about every command, made command by command. -/

namespace Sys2Proof.Laws.IllFormed

/-- A command that is not well formed is a frame event with no byte. -/
def Statement (i : Instr) : Prop := i.wellFormed = false → i = .uFrameReceived [] ∨ i = .dFrameReceived []

theorem powerOnReset : Statement .powerOnReset := fun h => absurd h (by decide)
theorem uFrameReceived (frame : Frame) : Statement (.uFrameReceived frame) := by
  cases frame with
  | nil => exact fun _ => Or.inl rfl
  | cons b bs => exact fun h => absurd h (by simp [Instr.wellFormed])

theorem dFrameReceived (frame : Frame) : Statement (.dFrameReceived frame) := by
  cases frame with
  | nil => exact fun _ => Or.inr rfl
  | cons b bs => exact fun h => absurd h (by simp [Instr.wellFormed])

theorem cadenceLoss : Statement .cadenceLoss := fun h => absurd h (by decide)
theorem localSync : Statement .localSync := fun h => absurd h (by decide)
theorem bodyEvaluation : Statement .bodyEvaluation := fun h => absurd h (by decide)
theorem targetMapping : Statement .targetMapping := fun h => absurd h (by decide)
theorem axisShaping : Statement .axisShaping := fun h => absurd h (by decide)
theorem setpointEmission : Statement .setpointEmission := fun h => absurd h (by decide)
theorem occurrenceService : Statement .occurrenceService := fun h => absurd h (by decide)
theorem dTransmitEnd : Statement .dTransmitEnd := fun h => absurd h (by decide)
theorem uTransmitEnd : Statement .uTransmitEnd := fun h => absurd h (by decide)
theorem unknownRequest : Statement .unknownRequest := fun h => absurd h (by decide)
theorem readStatus : Statement .readStatus := fun h => absurd h (by decide)
theorem setEpoch : Statement .setEpoch := fun h => absurd h (by decide)
theorem setRate : Statement .setRate := fun h => absurd h (by decide)
theorem setEpochWatch : Statement .setEpochWatch := fun h => absurd h (by decide)
theorem setCadence : Statement .setCadence := fun h => absurd h (by decide)
theorem setSite : Statement .setSite := fun h => absurd h (by decide)
theorem readAxis : Statement .readAxis := fun h => absurd h (by decide)
theorem writeAxis : Statement .writeAxis := fun h => absurd h (by decide)
theorem enable : Statement .enable := fun h => absurd h (by decide)
theorem disable : Statement .disable := fun h => absurd h (by decide)
theorem home : Statement .home := fun h => absurd h (by decide)
theorem track : Statement .track := fun h => absurd h (by decide)
theorem stop : Statement .stop := fun h => absurd h (by decide)
theorem clearFault : Statement .clearFault := fun h => absurd h (by decide)
theorem readBody : Statement .readBody := fun h => absurd h (by decide)
theorem writeBody : Statement .writeBody := fun h => absurd h (by decide)
theorem loadSegments : Statement .loadSegments := fun h => absurd h (by decide)
theorem readSegments : Statement .readSegments := fun h => absurd h (by decide)
theorem swapBanks : Statement .swapBanks := fun h => absurd h (by decide)
theorem cancelSwap : Statement .cancelSwap := fun h => absurd h (by decide)
theorem writeCues : Statement .writeCues := fun h => absurd h (by decide)
theorem writeChannel : Statement .writeChannel := fun h => absurd h (by decide)
theorem armChannel : Statement .armChannel := fun h => absurd h (by decide)
theorem disarmChannel : Statement .disarmChannel := fun h => absurd h (by decide)
theorem enterShow : Statement .enterShow := fun h => absurd h (by decide)
theorem enterSetup : Statement .enterSetup := fun h => absurd h (by decide)
theorem softReset : Statement .softReset := fun h => absurd h (by decide)
theorem axisCommand : Statement .axisCommand := fun h => absurd h (by decide)

end Sys2Proof.Laws.IllFormed
end

