-- ==== Sys2Proof/Laws/Slots.lean ====
section
/-! SUPPORT. The sparse stores: what a write changes, and that it keeps the canonical form. -/

namespace Sys2Proof.Machine.Slots

variable {α : Type} [DecidableEq α] (dflt : α)

theorem above_mono {α : Type} {l k : Nat} {m : Slots α} (h : l ≤ k) (a : above k m = true) : above l m = true := by
  cases m with
  | nil => rfl
  | cons e rest => simp only [above, Bool.and_eq_true, decide_eq_true_eq] at *; exact ⟨by omega, a.2⟩

omit [DecidableEq α] in
/-- Below the lowest listed address every slot reads as the default. -/
theorem read_of_above {m : Slots α} {l i : Nat} (a : above l m = true) (h : i < l) : read dflt m i = dflt := by
  induction m generalizing l with
  | nil => rfl
  | cons e rest ih =>
      simp only [above, Bool.and_eq_true, decide_eq_true_eq] at a
      rw [read, if_neg (by omega)]
      exact ih a.2 (by omega)

theorem above_write {m : Slots α} {l i : Nat} {x : α} (a : above l m = true) (h : l ≤ i) : above l (write dflt m i x) = true := by
  induction m generalizing l with
  | nil => rw [write]; split <;> simp [above, h]
  | cons e rest ih =>
      obtain ⟨k, y⟩ := e
      simp only [above, Bool.and_eq_true, decide_eq_true_eq] at a
      rw [write]
      split
      · split <;> simp only [above, Bool.and_eq_true, decide_eq_true_eq]
        · exact a
        · exact ⟨h, by omega, a.2⟩
      · split
        · split
          · exact above_mono (by omega) a.2
          · next e _ => simp only [above, Bool.and_eq_true, decide_eq_true_eq]; exact ⟨h, e ▸ a.2⟩
        · simp only [above, Bool.and_eq_true, decide_eq_true_eq]; exact ⟨a.1, ih a.2 (by omega)⟩

/-- A write is read back at its own address and nowhere else. -/
theorem read_write {m : Slots α} {l : Nat} (a : above l m = true) (i j : Nat) (x : α) :
    read dflt (write dflt m i x) j = if j = i then x else read dflt m j := by
  induction m generalizing l with
  | nil =>
      rw [write]
      by_cases d : x = dflt
      · rw [if_pos d, read, d]; simp
      · rw [if_neg d, read, read]; simp only [eq_comm (a := i)]; rfl
  | cons e rest ih =>
      obtain ⟨k, y⟩ := e
      simp only [above, Bool.and_eq_true, decide_eq_true_eq] at a
      have below : ∀ n, n ≤ k → read dflt rest n = dflt := fun n hn => read_of_above dflt a.2 (by omega)
      rw [write]
      split
      · split
        · by_cases e : j = i
          · subst e; rw [if_pos rfl, read, if_neg (by omega), below _ (by omega)]; simp_all
          · rw [if_neg e]
        · simp only [read]
          by_cases e : i = j
          · subst e; simp
          · rw [if_neg e]; simp only [eq_comm (a := j), if_neg e]
      · split
        · next e =>
            subst e
            split
            · by_cases e : j = i
              · subst e; rw [if_pos rfl, below _ (by omega)]; simp_all
              · rw [if_neg e, read, if_neg (fun h => e h.symm)]
            · simp only [read]
              by_cases e : i = j
              · subst e; simp
              · rw [if_neg e, if_neg (fun h => e h.symm), if_neg e]
        · simp only [read]
          by_cases e : k = j
          · subst e; rw [if_pos rfl, if_neg (by omega), if_pos rfl]
          · rw [if_neg e, if_neg e, ih a.2]

/-- The addresses and records of a store after a write are those before it and the one written, which is not the default. -/
theorem mem_write {m : Slots α} {i : Nat} {x : α} {e : Nat × α} (h : e ∈ write dflt m i x) :
    (e = (i, x) ∧ x ≠ dflt) ∨ e ∈ m := by
  induction m with
  | nil =>
      rw [write] at h
      split at h
      · exact absurd h List.not_mem_nil
      · next d => exact Or.inl ⟨List.mem_singleton.mp h, d⟩
  | cons d rest ih =>
      obtain ⟨k, y⟩ := d
      rw [write] at h
      split at h
      · split at h
        · exact Or.inr h
        · next d => exact (List.mem_cons.mp h).elim (fun g => Or.inl ⟨g, d⟩) Or.inr
      · split at h
        · split at h
          · exact Or.inr (List.mem_cons_of_mem _ h)
          · next d => exact (List.mem_cons.mp h).elim (fun g => Or.inl ⟨g, d⟩) fun g => Or.inr (List.mem_cons_of_mem _ g)
        · rcases List.mem_cons.mp h with g | g
          · exact Or.inr (g ▸ List.mem_cons_self)
          · exact (ih g).imp id (List.mem_cons_of_mem _)

theorem write_all {m : Slots α} {i : Nat} {x : α} (h : (m.all fun e => decide (e.2 ≠ dflt)) = true) :
    ((write dflt m i x).all fun e => decide (e.2 ≠ dflt)) = true := by
  simp only [List.all_eq_true, decide_eq_true_eq] at *
  intro e g
  rcases mem_write dflt g with ⟨rfl, d⟩ | k
  · exact d
  · exact h e k

/-- A write keeps the canonical form. -/
theorem wf_write {m : Slots α} (h : wf dflt m = true) (i : Nat) (x : α) : wf dflt (write dflt m i x) = true := by
  simp only [wf, Bool.and_eq_true] at *
  exact ⟨above_write dflt h.1 (Nat.zero_le _), write_all dflt h.2⟩

/-- Writes at consecutive addresses keep the canonical form. -/
theorem wf_writeAll {m : Slots α} (h : wf dflt m = true) (i : Nat) (xs : List α) : wf dflt (writeAll dflt m i xs) = true := by
  induction xs generalizing m i with
  | nil => exact h
  | cons x xs ih => exact ih (wf_write dflt h i x) (i + 1)

/-- Records written from address i on are read back in order, and every other address reads as before. -/
theorem read_writeAll {m : Slots α} (h : wf dflt m = true) (i j : Nat) (xs : List α) :
    read dflt (writeAll dflt m i xs) j = if i ≤ j then xs[j - i]?.getD (read dflt m j) else read dflt m j := by
  induction xs generalizing m i with
  | nil => simp [writeAll]
  | cons x xs ih =>
      have a : above 0 m = true := by simp only [wf, Bool.and_eq_true] at h; exact h.1
      rw [writeAll, ih (wf_write dflt h i x), read_write dflt a]
      by_cases e : j = i
      · subst e; rw [if_neg (by omega), if_pos rfl, if_pos (Nat.le_refl _)]; simp
      · by_cases le : i ≤ j
        · have : j - i = (j - (i + 1)) + 1 := by omega
          rw [if_pos le, if_pos (by omega), if_neg e, this]; simp
        · rw [if_neg le, if_neg (by omega), if_neg e]

/-- Every listed address lies below a bound that the writes respect. -/
theorem address_lt_writeAll {m : Slots α} {n : Nat} (h : ∀ e ∈ m, e.1 < n) (i : Nat) (xs : List α) (b : i + xs.length ≤ n) :
    ∀ e ∈ writeAll dflt m i xs, e.1 < n := by
  induction xs generalizing m i with
  | nil => exact h
  | cons x xs ih =>
      simp only [List.length_cons] at b
      refine ih (fun e g => ?_) (i + 1) (by omega)
      rcases mem_write dflt g with ⟨rfl, _⟩ | k
      · show i < n
        omega
      · exact h e k

/-- Every address lies above a bound and the addresses rise strictly. -/
theorem above_iff {α : Type} {l : Nat} {m : Slots α} : above l m = true ↔ (∀ e ∈ m, l ≤ e.1) ∧ (m.map (·.1)).Pairwise (· < ·) := by
  induction m generalizing l with
  | nil => simp [above]
  | cons e rest ih =>
      simp only [above, Bool.and_eq_true, decide_eq_true_eq, ih, List.map_cons, List.pairwise_cons, List.forall_mem_cons,
        List.forall_mem_map]
      constructor
      · exact fun ⟨a, b, c⟩ => ⟨⟨a, fun x h => by have := b x h; omega⟩, fun x h => b x h, c⟩
      · exact fun ⟨⟨a, _⟩, b, c⟩ => ⟨a, fun x h => b x h, c⟩

/-- The canonical form, said of the list. -/
theorem wf_iff {m : Slots α} :
    wf dflt m = true ↔ (m.map (·.1)).Pairwise (· < ·) ∧ ∀ e ∈ m, e.2 ≠ dflt := by
  simp [wf, above_iff]

omit [DecidableEq α] in
/-- A read is the first entry of its address, or the default. -/
theorem read_eq_find (m : Slots α) (i : Nat) : read dflt m i = ((m.find? fun e => decide (e.1 = i)).map (·.2)).getD dflt := by
  induction m with
  | nil => rfl
  | cons e rest ih => by_cases h : e.1 = i <;> simp [read, h, ih]

end Sys2Proof.Machine.Slots
end

