-- ==== Sys2Proof/Tests/Slice0.lean ====
section
/-! SUPPORT. Checks of the model on the spec's own worked values, and, for each statement with hypotheses, a state and operands that
meet them. -/

namespace Sys2Proof.Tests

open Sys2Proof.Machine

-- One test after another: as tasks of their own they would wait for the kernel in more threads than fit in memory.
set_option Elab.async false

/-! ## Helpers -/

/-- The state that a command leaves. -/
def after (i : Instr) (s : State) : State :=
  match exec i s with
  | .next t => t
  | _ => s

/-- A request alone at the head of the Request Queue. -/
def put (code : Byte) (args : List Byte) (s : State) : State :=
  { s with mgmt := { s.mgmt with freeCredits := 7, requests := [{ tag := 9, code := code, args := args }] } }

def asked (code : Byte) (args : List Byte) : State := put code args State.reset

/-- The payload of the REPLY that the U transmitter is sending. -/
def replied (s : State) : List Byte :=
  match s.ring.uSending with
  | some (.reply f) => framePayload f
  | _ => []

def evaluation (stage : Stage) : Evaluation :=
  { number := 1, epoch := turn, prevEpoch := 0, epochSet := false, swapped := false, stage := stage, suppressed := [],
    triggers := [], records := [] }

def busy (stage : Stage) (s : State) : State := { s with eval := some (evaluation stage) }

/-- Axis 7 as in the worked example of section 6.8: a BOUNDED SEARCH axis on node 5, channel 2. -/
def axisSeven : Axis :=
  { Axis.reset with
    travel :=
      { Travel.reset with
        kind := .bounded, softLow := -1000000, softHigh := 1000000, vmax := 20000, amax := 5000, stopDecel := 10000,
        homeVelocity := -10000, homePosition := 200000, homeSpan := 1000000, node := 5, channel := 2 },
    position := 500000 }

def withAxis (x : Axis) : State := State.reset.setAxis 7 x

/-- A segment from day 16 with a span of 16 days, and one body that it covers. -/
def segment : Segment := { Segment.zero with start := 16, span := 16, c0 := 1000, c1 := 160 }

def loadedBank : Bank :=
  { slots := [(0, segment)],
    descriptors := (Vector.replicate _ Descriptor.zero).set 4 { Descriptor.zero with enabled := true, length := 1 } (by decide) }

/-! ## Well-formed commands -/

theorem test_wellFormed_refuses_empty_frame_at_U : Instr.wellFormed (.uFrameReceived []) = false := by decide
theorem test_wellFormed_refuses_empty_frame_at_D : Instr.wellFormed (.dFrameReceived []) = false := by decide
theorem test_wellFormed_takes_a_bad_frame : Instr.wellFormed (.uFrameReceived [1]) = true := by decide
theorem test_no_word_spells_a_command : decodeTableWord 8 1 = none := by decide

/-! ## Bytes (chapter 11) -/

/-- The check of the nine digits, the known value of this computation. -/
theorem test_check_of_nine_digits : checkOf [49, 50, 51, 52, 53, 54, 55, 56, 57] = 0x29B1#16 := by decide +kernel

/-- A SYNC frame, its bytes written out from the table of section 11.1. -/
theorem test_sync_frame : encodeFrame 1 0 [] = [1, 0, 0, 0, 242, 116] ∧ Checked [1, 0, 0, 0, 242, 116] := by decide +kernel

/-- SET_RATE of -1 and 16: twelve bytes, most significant first. -/
theorem test_rate_arguments :
    intBytes 6 (-1) ++ natBytes 6 16 = [255, 255, 255, 255, 255, 255, 0, 0, 0, 0, 0, 16] := by decide +kernel

theorem test_feedback_record_is_read :
    decodeFeedback [3, 1, 2, 0b1101, 255, 255, 255, 255, 255, 254] =
      some (3, [{ channel := 2, switches := { home := true, low := false, high := true }, fault := true, actual := -2 }]) := by
  decide +kernel

theorem test_feedback_of_no_record_is_not_taken : decodeFeedback [3, 0] = none := by decide +kernel

theorem test_cue_entry_is_read :
    decodeCue [6, 3, 2, 0, 0, 0, 0, 1, 0, 0, 0, 0, 0] = some (.watchLoad 3 false true 256) := by decide +kernel

/-- A source kind byte of 5 names FIXED; one of 6 names nothing. -/
theorem test_cue_source_kind :
    decodeCue [1, 23, 5, 255, 0, 0, 0, 0, 0, 0, 0, 0, 0] = some (.axisSource 23 .fixed 255) ∧
      decodeCue [1, 23, 6, 0, 0, 0, 0, 0, 0, 0, 0, 0, 0] = none := by decide +kernel

/-! ## Arithmetic (00_scope 1.5, and the worked values of the chapters) -/

theorem test_isqrt : isqrt 1000000000 = 31622 ∧ isqrt 0 = 0 ∧ isqrt 15 = 3 ∧ isqrt 16 = 4 := by decide +kernel

/-- R64: a longitude of 3,000,000,000 and a latitude of -20,000,000, as the kinds read them. -/
theorem test_sources_read_by_kind :
    readSource .bounded 3000000000 = -1294967296 ∧ readSource .continuous (-20000000) = 4274967296 := by decide +kernel

/-- R6: for f = 5 the extra units fall at positions 4, 7, 10, 13 and 16. -/
theorem test_pattern_of_five :
    ((List.range' 1 16).filter fun k => decide (extraUnit k 5 = 1)) = [4, 7, 10, 13, 16] := by decide +kernel

/-- R47: with r = 6,000,001 and E = -2^30 the last term is -1,500,001. -/
theorem test_linear_angle : linearAngle 1500001 0 6000001 (-1073741824) = 0 := by decide +kernel

/-! ## One command each -/

theorem test_powerOnReset : after .powerOnReset (asked 22 []) = State.reset := by decide +kernel

theorem test_sync_issues_evaluation_one :
    (after (.uFrameReceived (encodeFrame 1 0 [])) State.reset).eval = some { evaluation (.bodies 0) with epoch := 0 } := by
  decide +kernel

theorem test_request_is_admitted :
    (after (.uFrameReceived (encodeFrame 2 0 [9, 20])) State.reset).mgmt.requests = [{ tag := 9, code := 20, args := [] }] := by
  decide +kernel

theorem test_frame_from_D_leaves_at_U :
    (after (.dFrameReceived (encodeFrame 9 31 [1])) State.reset).ring.uSending = some (.forwarded (encodeFrame 9 31 [1])) := by
  decide +kernel

theorem test_cadenceLoss :
    (after .cadenceLoss { State.reset with clock := { Clock.reset with cadence := .watching } }).clock.localGenerator =
      some 1000 := by decide +kernel

theorem test_localSync :
    (after .localSync { State.reset with clock := { Clock.reset with cadence := .localPaced } }).clock.evalCount = 1 := by
  decide +kernel

theorem test_bodyEvaluation_holds_a_disabled_body :
    (after .bodyEvaluation (busy (.bodies 11) State.reset)).eval = some (evaluation (.mapping 0)) := by decide +kernel

theorem test_targetMapping_of_last_axis :
    (after .targetMapping (busy (.mapping 23) State.reset)).eval = some (evaluation (.shaping 0)) := by decide +kernel

/-- A HOLDING axis at 20,000 loses amax of speed and moves by what is left. -/
theorem test_axisShaping_of_a_moving_axis :
    let t := after .axisShaping (busy (.shaping 0) (withAxis { axisSeven with state := .holding, homed := true, velocity := 20000 }))
    (t.axis 7).velocity = 15000 ∧ (t.axis 7).position = 515000 := by decide +kernel

theorem test_emission_of_no_axis :
    (after .setpointEmission (busy (.shaping 0) State.reset)).ring.dSending =
      some (.setpoint (encodeFrame 5 31 [1, 0])) := by decide +kernel

theorem test_occurrenceService_completes :
    (after .occurrenceService
      { State.reset with eval := some { evaluation .servicing with triggers := [{ kind := .bankSwap, index := 0 }] } }).eval =
      none := by decide +kernel

theorem test_dTransmitEnd :
    (after .dTransmitEnd { State.reset with ring := { Ring.reset with dSending := some (.forwarded [1]) } }).ring = Ring.reset := by
  decide +kernel

theorem test_uTransmitEnd_returns_the_credit :
    (after .uTransmitEnd
      { State.reset with
        ring := { Ring.reset with uSending := some (.reply [1]) }, mgmt := { Management.reset with freeCredits := 7 } }).mgmt =
      Management.reset := by decide +kernel

theorem test_unknownRequest : replied (after .unknownRequest (asked 23 [1])) = [9, 23, 1] := by decide +kernel
theorem test_readStatus_length : (replied (after .readStatus (asked 1 [0]))).length = 3 + 88 := by decide +kernel
theorem test_setEpoch : (after .setEpoch (asked 2 (intBytes 8 epochMax))).clock.pendingSet = some epochMax := by decide +kernel
theorem test_setEpoch_refused : replied (after .setEpoch (asked 2 (intBytes 8 (epochMax + 1)))) = [9, 2, 2] := by decide +kernel

theorem test_setRate :
    (after .setRate (asked 3 (intBytes 6 (-rateLimit) ++ natBytes 6 1))).clock.target = -rateLimit := by decide +kernel

theorem test_setEpochWatch : (after .setEpochWatch (asked 4 (intBytes 4 (-5) ++ [1]))).clock.watchDay = -5 := by decide +kernel
theorem test_setCadence : (after .setCadence (asked 5 [0, 200, 255, 255])).clock.localPeriod = 65535 := by decide +kernel

theorem test_setSite :
    (after .setSite (asked 6 (intBytes 4 (-1073741824) ++ [255, 255, 255, 255]))).site =
      { latitude := -1073741824, longitude := 4294967295, changed := true } := by decide +kernel

theorem test_readAxis_lengths :
    (replied (after .readAxis (asked 7 [7, 0]))).length = 3 + 3 + 17 * 9 ∧
      (replied (after .readAxis (asked 7 [7, 1]))).length = 3 + 3 + 16 * 9 ∧
      (replied (after .readAxis (asked 7 [7, 2]))).length = 3 + 3 + 20 * 9 + 2 := by decide +kernel

theorem test_writeAxis :
    ((after .writeAxis (asked 8 (itemArgs 7 [(5, 131072), (34, -65536)]))).axis 7).travel.vmax = 131072 := by decide +kernel

theorem test_enable :
    replied (after .enable
      (put 9 [7, 0] (withAxis { axisSeven with drive := { Drive.reset with actual := some 500000 } }))) =
      [9, 9, 0, 1, 255, 0] := by decide +kernel

theorem test_disable : replied (after .disable (put 9 [7, 1] (withAxis { axisSeven with state := .unhomed }))) =
    [9, 9, 0, 0, 255, 0] := by decide +kernel

theorem test_home : replied (after .home (put 9 [7, 2] (withAxis { axisSeven with state := .unhomed }))) =
    [9, 9, 0, 2, 0, 0] := by decide +kernel

theorem test_track : replied (after .track (put 9 [7, 3] (withAxis { axisSeven with state := .holding, homed := true }))) =
    [9, 9, 0, 4, 255, 1] := by decide +kernel

theorem test_stop : replied (after .stop (put 9 [7, 4] (withAxis { axisSeven with state := .homing .seek }))) =
    [9, 9, 0, 2, 2, 0] := by decide +kernel

theorem test_clearFault :
    replied (after .clearFault (put 9 [7, 5] (withAxis { axisSeven with state := .faulted, causes := [.following] }))) =
      [9, 9, 0, 1, 255, 0] := by decide +kernel

theorem test_axisCommand_refused : replied (after .axisCommand (asked 9 [7, 6])) = [9, 9, 2] := by decide +kernel
theorem test_readBody_length : (replied (after .readBody (asked 10 [1, 4]))).length = 3 + 38 := by decide +kernel

theorem test_writeBody :
    ((after .writeBody (asked 11 (bodyArgs 1 4 { Descriptor.zero with turns := -16 }))).bank 1).descriptor 4 =
      { Descriptor.zero with turns := -16 } := by decide +kernel

theorem test_loadSegments :
    ((after .loadSegments (asked 12 (loadArgs 1 2047 [segment]))).bank 1).slots = [(2047, segment)] := by decide +kernel

theorem test_loadSegments_refused_for_the_active_bank :
    replied (after .loadSegments (asked 12 (loadArgs 0 0 [segment]))) = [9, 12, 5] := by decide +kernel

theorem test_readSegments_length : (replied (after .readSegments (asked 13 [0, 0, 0, 28]))).length = 3 + 6 + 28 * 34 := by
  decide +kernel

theorem test_swapBanks : (after .swapBanks (asked 14 (1 :: intBytes 4 0))).store.swap = .pendingEpoch 0 .after := by decide +kernel

theorem test_swapBanks_names_the_failure :
    replied (after .swapBanks
      (put 14 [0] { State.reset with store :=
        { Store.reset with banks := Store.reset.banks.set 1 { loadedBank with slots := [] } } })) =
      [9, 14, 5, 4, 1, 0, 0] := by decide +kernel

theorem test_cancelSwap : replied (after .cancelSwap (asked 15 [])) = [9, 15, 4] := by decide +kernel

theorem test_writeCues :
    (after .writeCues (asked 16 ([255, 1] ++ [10, 5] ++ List.replicate 11 0))).cues.list = [(255, .note 5)] := by decide +kernel

theorem test_writeChannel :
    replied (after .writeChannel (asked 17 [3, 5, 23, 0, 255, 1, 9, 1])) = [9, 17, 0, 3, 0, 1, 5, 23, 0, 255, 0, 1, 9, 1, 1] := by
  decide +kernel

theorem test_armChannel_undefined : (replied (after .armChannel (asked 18 [3]))).take 4 = [9, 18, 4, 3] := by decide +kernel
theorem test_disarmChannel : (replied (after .disarmChannel (asked 19 [7]))).take 4 = [9, 19, 0, 7] := by decide +kernel
theorem test_enterShow : (after .enterShow (asked 20 [])).mgmt.mode = .showing := by decide +kernel
theorem test_enterSetup : replied (after .enterSetup (asked 21 [])) = [9, 21, 0] := by decide +kernel

/-- The SOFT_RESET reply holds one of the eight credits (R171). -/
theorem test_softReset :
    (after .softReset (asked 22 [])).mgmt.freeCredits = 7 ∧ replied (after .softReset (asked 22 [])) = [9, 22, 0] := by
  decide +kernel

/-! ## Hypotheses that are met: commands that are not due -/

/-- Each stage refuses the commands of the others, and no evaluation those of all. -/
theorem test_witness_EveryCommandAnswersNext :
    let shaped := busy (.shaping 8) (withAxis { axisSeven with state := .holding })
    exec .bodyEvaluation (busy (.mapping 0) State.reset) = .next (busy (.mapping 0) State.reset) ∧
      exec .targetMapping (busy (.shaping 0) State.reset) = .next (busy (.shaping 0) State.reset) ∧
      exec .axisShaping shaped = .next shaped ∧
      exec .setpointEmission (busy .servicing State.reset) = .next (busy .servicing State.reset) ∧
      exec .occurrenceService (busy (.bodies 11) State.reset) = .next (busy (.bodies 11) State.reset) ∧
      exec .occurrenceService State.reset = .next State.reset ∧ State.reset.eval = none ∧ State.reset.cues.held = [] ∧
      exec .dTransmitEnd State.reset = .next State.reset ∧ exec .uTransmitEnd State.reset = .next State.reset :=
  ⟨rfl, rfl, rfl, rfl, rfl, rfl, rfl, rfl, rfl, rfl⟩

/-- Axis 7 is live and not yet shaped: the shaping is due, the emission is not. -/
theorem test_witness_EveryCommandAnswersNext_live :
    let s := busy (.shaping 7) (withAxis { axisSeven with state := .holding })
    (7 : Nat) ≤ (7 : Fin Config.axisCount).val ∧ (s.axis 7).state ≠ .off ∧ exec .setpointEmission s = .next s :=
  ⟨by decide, by decide +kernel, rfl⟩

/-! ## Hypotheses that are met: resets and the Sky Clock -/

def softAsked : State := asked 22 []

/-- For every statement about a soft reset: with no evaluation in flight, and with one. -/
theorem test_witness_AfterResets :
    softAsked.mgmt.requests = [{ tag := 9, code := 22, args := [] }] ∧ softAsked.eval = none ∧
      (busy (.bodies 0) softAsked).mgmt.requests = softAsked.mgmt.requests ∧ (busy (.bodies 0) softAsked).eval ≠ none := by
  decide +kernel

/-- A soft reset with the U transmitter idle, sending a REPLY, and sending another frame. -/
theorem test_witness_PortsAfterResets :
    let sending (u : USending) : State := { softAsked with ring := { softAsked.ring with uSending := some u } }
    let left (s : State) := ((after .softReset s).mgmt.resetReply, (after .softReset s).mgmt.freeCredits)
    left softAsked = (false, 7) ∧ left (sending (.reply [])) = (true, 6) ∧ left (sending (.forwarded [])) = (true, 7) ∧
      left (sending (.notice [])) = (true, 7) := by decide +kernel

theorem test_witness_CadenceAndSyncs :
    ({ Clock.reset with cadence := .watching } : Clock).cadence = .watching ∧ Clock.reset.cadence ≠ .watching ∧
      ({ Clock.reset with cadence := .localPaced } : Clock).cadence = .localPaced ∧ Clock.reset.cadence ≠ .localPaced ∧
      Checked (encodeFrame 1 0 []) ∧ frameNode (encodeFrame 1 0 []) = 0 ∧ frameKind (encodeFrame 1 0 []) = 1 := by decide +kernel

theorem test_witness_SyncAppliesPendingSet :
    let s := { State.reset with clock := { Clock.reset with pendingSet := some epochMin } }
    s.clock.pendingSet = some epochMin ∧ s.eval = none ∧ (busy (.bodies 0) s).clock.pendingSet = some epochMin ∧
      (busy (.bodies 0) s).eval ≠ none := by decide +kernel

/-- The last epoch within each limit, reached by an advance of one. -/
theorem test_witness_SyncStepsRateAndEpoch :
    let up := { Clock.reset with epoch := epochMax - 1, rate := 16, target := 16 }
    let down := { Clock.reset with epoch := epochMin + 1, rate := -16, target := -16 }
    (up.pendingSet = none ∧ rateStep up.rate up.target up.slew = 16 ∧ up.epoch + epochAdvance up.pattern 16 = epochMax) ∧
      down.pendingSet = none ∧ rateStep down.rate down.target down.slew = -16 ∧
      down.epoch + epochAdvance down.pattern (-16) = epochMin := by decide +kernel

theorem test_witness_AdvanceFollowsPattern :
    ({ Clock.reset with pattern := 16 } : Clock).pattern = 16 ∧ Clock.reset.pattern = 1 ∧ Clock.reset.pendingSet = none := by
  decide +kernel

/-- One eu past each limit. -/
theorem test_witness_EpochLimitStopsSky :
    epochMax + epochAdvance 1 (rateStep 16 16 16) > epochMax ∧ epochMin + epochAdvance 1 (rateStep (-16) (-16) 16) < epochMin := by
  decide +kernel

theorem test_witness_SyncIssuesOrOverruns :
    State.reset.eval = none ∧ (busy (.bodies 0) State.reset).eval = some (evaluation (.bodies 0)) := by decide +kernel

/-! ## Hypotheses that are met: bodies and targets -/

theorem test_witness_BodyIsEvaluated :
    (busy (.bodies 0) State.reset).eval = some (evaluation (.bodies 0)) ∧ (evaluation (.bodies 0)).stage = .bodies 0 ∧
      (evaluation (.bodies 11)).stage = .bodies 11 := by decide +kernel

/-- A longitude seam at the tolerance, and one above it; a larger latitude seam; two segments a day apart. -/
theorem test_witness_BodyIsEvaluated_seam :
    let next : Segment := { segment with start := 32, c0 := 1165, c1 := 0 }
    let raised (g : Segment) (tolerance : Int) : List Notice :=
      (seamTest State.reset { loadedBank with slots := [(0, segment), (1, g)] } { Descriptor.zero with tolerance := tolerance } 4 1 0).notices
    raised next 5 = [] ∧ raised next 4 = [{ kind := .seam, index := 4, count := 1, detail := .seam false 5 }] ∧
      raised { next with b0 := -6 } 5 = [{ kind := .seam, index := 4, count := 1, detail := .seam true (-6) }] ∧
      raised { next with start := 33 } 4 = [] := by decide +kernel

/-- The first and the last eu of the segment. -/
theorem test_witness_NormalisedTimeOfSegment :
    segment.covers (16 * 2 ^ 32 / 2 ^ 32) = true ∧ segment.covers ((32 * 2 ^ 32 - 1) / 2 ^ 32) = true ∧
      normalisedTime segment (16 * 2 ^ 32) = 0 ∧ normalisedTime segment (32 * 2 ^ 32 - 1) = 2 ^ 32 - 1 := by decide +kernel

theorem test_witness_LookupFindsTheOneSegment :
    bankFailure loadedBank = none ∧ (loadedBank.descriptor 4).enabled = true ∧
      coveringPosition loadedBank (loadedBank.descriptor 4) 31 = some 0 ∧
      coveringPosition loadedBank (loadedBank.descriptor 4) 32 = none := by decide +kernel

theorem test_witness_AxisIsMapped :
    (busy (.mapping 23) State.reset).eval = some (evaluation (.mapping 23)) ∧ (evaluation (.mapping 0)).stage = .mapping 0 := by
  decide +kernel

/-- Each kind, a clamped target on either side, each source. -/
theorem test_witness_TargetFollowsSourceAndKind :
    Axis.reset.travel.kind ≠ .bounded ∧ axisSeven.travel.kind = .bounded ∧
      (mapAxis State.reset (evaluation (.mapping 7))
        { axisSeven with target := { Target.reset with offset := 1000001 } }).lastTarget = 1000000 ∧
      (mapAxis State.reset (evaluation (.mapping 7))
        { axisSeven with target := { Target.reset with offset := BitVec.ofInt 32 (-1000001) } }).lastTarget = -1000000 ∧
      ({ Target.reset with source := .bodyLongitude, index := 11 } : Target).index = (11 : Fin Config.bodyCount).val ∧
      ({ Target.reset with source := .follow, index := 22 } : Target).index = (22 : Fin Config.axisCount).val := by decide +kernel

theorem test_witness_FeedforwardOfMappedAxis :
    suppressedIn State.reset (evaluation (.mapping 7)) axisSeven = false ∧
      suppressedIn State.reset (evaluation (.mapping 7)) { axisSeven with suppress := true } = true ∧
      feedforwardOf axisSeven 20001 = 20000 ∧ feedforwardOf axisSeven (-20001) = -20000 := by decide +kernel

/-- Within the wind; above it and below it, with each angle at an end of its range. -/
theorem test_witness_ExtendedTargetStaysInWind :
    let lw : Int := 2 ^ 32
    extendedTarget lw 0 (2 ^ 32 - 1) = -1 ∧ nearestInWind lw (3 * 2 ^ 32) 0 > lw ∧ extendedTarget lw (3 * 2 ^ 32) 0 = lw ∧
      nearestInWind lw (-3 * 2 ^ 32) (2 ^ 32 - 1) < -lw ∧ extendedTarget lw (-3 * 2 ^ 32) (2 ^ 32 - 1) = -1 := by decide +kernel

/-! ## Hypotheses that are met: motion -/

def movingSeven (state : AxisState) (position velocity : Int) : Axis :=
  { axisSeven with
    state := state, homed := decide (state = .holding ∨ state = .tracking), position := position, velocity := velocity }

theorem test_witness_AxisIsShaped :
    let s := busy (.shaping 7) (withAxis (movingSeven (.homing .settle) 0 5000))
    s.eval = some (evaluation (.shaping 7)) ∧ (s.axis 7).state ≠ .off ∧ s.nextLive 0 = some 7 ∧
      (shapeMotion (s.axis 7)).velocity = 0 := by decide +kernel

theorem valid_seven : axisSeven.travel.Valid := by unfold Travel.Valid; decide +kernel

theorem test_witness_TrackingLaw_ShapingKeepsSpeedLimits :
    let x := movingSeven .tracking 3 20000
    x.state = .tracking ∧ x.travel.Valid ∧ mag x.velocity = x.travel.vmax ∧ x.state ≠ .off ∧
      ((173 : Nat) : Int) * (173 : Nat) ≤ 2 * x.travel.amax * mag (trackingError x) ∧
      2 * x.travel.amax * mag (trackingError x) < ((173 : Nat) + 1) * (((173 : Nat) : Int) + 1) :=
  ⟨by decide, valid_seven, by decide, by decide, by decide +kernel, by decide +kernel⟩

theorem test_witness_OtherLawsAndStep :
    lawVelocity (movingSeven .holding 0 20000) = 15000 ∧ lawVelocity (movingSeven .halting 0 20000) = 10000 ∧
      lawVelocity (movingSeven (.homing .seek) 0 0) = -5000 ∧ (shapeMotion (movingSeven .holding 0 20000)).stopped = false ∧
      Axis.reset.travel.kind = .continuous := by decide +kernel

/-- A stop at each limit, from within it and from beyond it, and the last step that is none. -/
theorem test_witness_LimitStops :
    shapeMotion (movingSeven .holding 985001 20000) = { position := 1000000, velocity := 0, stopped := true } ∧
      shapeMotion (movingSeven .holding 1000001 20000) = { position := 1000001, velocity := 0, stopped := true } ∧
      shapeMotion (movingSeven .holding 985000 20000) = { position := 1000000, velocity := 15000, stopped := false } ∧
      shapeMotion (movingSeven .holding (-985001) (-20000)) = { position := -1000000, velocity := 0, stopped := true } ∧
      shapeMotion (movingSeven .unhomed 985001 20000) = { position := 1000001, velocity := 15000, stopped := false } := by
  decide +kernel

theorem test_witness_WatchCrossings :
    mag (-268435456) < 2 ^ 31 ∧ watchCrossed .continuous 0 1 4294967295 (-2) = true ∧
      watchCrossed .continuous 1 1 4294967295 (-2) = false ∧ watchCrossed .bounded 5 4 5 1 = true ∧
      watchCrossed .bounded 4 4 5 1 = false := by decide +kernel

/-! ## Hypotheses that are met: the drive line -/

theorem test_witness_SetpointIsEmitted :
    (busy (.shaping 24) State.reset).eval = some (evaluation (.shaping 24)) ∧
      ∀ a : Fin Config.axisCount, (0 : Nat) ≤ a.val → (State.reset.axis a).state = .off := by decide +kernel

/-- A record of an axis that misses its last answer: the axes, the notice and the trigger are those of its test. -/
theorem test_witness_SetpointIsEmitted_record :
    let record : Setpoint := { axis := 7, node := 5, channel := 2, position := -1, velocity := 5, hold := true }
    let x := { movingSeven .holding 0 5 with drive := { Drive.reset with answerPending := true, missCount := 3 } }
    let t := after .setpointEmission { withAxis x with eval := some { evaluation (.shaping 8) with records := [record] } }
    (t.axis 7).causes = [.feedbackLost] ∧ (t.axis 7).drive.history = [(1, -1)] ∧
      t.ring.uSending = some (.notice (encodeFrame 4 0 [1, 7, 0, 1, 4])) ∧
      (t.eval.map fun ev => ev.triggers) = some [{ kind := .axisEvent, index := 7 }] ∧
      t.ring.dSending =
        some (.setpoint (encodeFrame 5 31 [1, 1, 5, 2, 1, 255, 255, 255, 255, 255, 255, 0, 0, 0, 5])) := by decide +kernel

/-- A halting axis that adds both causes, and a faulted one that has seen one of them. -/
theorem test_witness_EmissionTestsOfAxis_faulted :
    let record : Setpoint := { axis := 7, node := 5, channel := 2, position := 0, velocity := 5, hold := true }
    let drive : Drive := { Drive.reset with answerPending := true, missCount := 3, live := some { Switches.none with high := true } }
    let causes (state : AxisState) (seen : List Cause) : List Cause :=
      ((emitAxis 1 (withAxis { movingSeven state 0 5 with causes := seen, drive := drive }) record).axis 7).causes
    causes .halting [.following] = [.following, .hardLimit, .feedbackLost] ∧
      causes .faulted [.hardLimit] = [.hardLimit, .feedbackLost] := by decide +kernel

/-- No cause, the third unanswered record, a hard limit, and both. -/
theorem test_witness_EmissionTestsOfAxis :
    let record : Setpoint := { axis := 7, node := 5, channel := 2, position := 0, velocity := 5, hold := true }
    let drive (misses : Nat) (high : Bool) : Drive :=
      { Drive.reset with answerPending := true, missCount := misses, live := some { Switches.none with high := high } }
    let causes (misses : Nat) (high : Bool) : List Cause :=
      ((emitAxis 1 (withAxis { movingSeven .holding 0 5 with drive := drive misses high }) record).axis 7).causes
    (movingSeven .holding 0 5).state = .holding ∧ causes 2 false = [] ∧ causes 3 false = [.feedbackLost] ∧
      causes 2 true = [.hardLimit] ∧ causes 3 true = [.hardLimit, .feedbackLost] := by decide +kernel

theorem test_witness_FeedbackRecordsAreMapped :
    let record (channel : Nat) : FeedbackRecord := { channel := channel, switches := Switches.none, fault := false, actual := 6 }
    decodeFeedback [3, 5] = none ∧ (decodeFeedback [3, 1, 2, 0, 0, 0, 0, 0, 0, 6]) = some (3, [record 2]) ∧
      (withAxis axisSeven).axisOfChannel 0 2 = none ∧ (withAxis axisSeven).axisOfChannel 5 4 = none ∧
      (withAxis axisSeven).axisOfChannel 5 3 = none ∧ ((withAxis axisSeven).axis 7).travel.node = 5 ∧
      ((withAxis axisSeven).axis 7).travel.channel = (record 2).channel ∧
      ((takeRecord 5 3 (withAxis axisSeven) (record 2)).axis 7).drive.actual = some 6 := by decide +kernel

/-- In SEEK: an edge with the limit ahead active; the limit ahead alone; every cause but the edge, at a following error one above its
limit; none at the limit. -/
theorem test_witness_FeedbackRecordIsJudged :
    let x (live : Option Switches) : Axis :=
      { movingSeven (.homing .seek) 0 (-10000) with drive := { Drive.reset with history := [(3, 16777216)], live := live } }
    let judged (live : Option Switches) (home low fault : Bool) (actual : Int) : Axis :=
      (handleRecord (withAxis (x live)) 7 3
        { channel := 2, switches := { home := home, low := low, high := false }, fault := fault, actual := actual }).1.axis 7
    (judged (some Switches.none) true false false 0).state = .homing .settle ∧
      (judged (some Switches.none) true true false 0).causes = [.hardLimit] ∧ (judged none false true true (-1)).causes =
      [.homeLimit, .following, .driveFault, .hardLimit] ∧ (judged none true false false 0).causes = [] := by decide +kernel

/-- A switch that changes on an OFF axis; and on a halting one, whose drive fault is new while its following error is not. -/
theorem test_witness_FeedbackRecordIsJudged_stopped :
    let x (state : AxisState) : Axis :=
      { movingSeven state 0 0 with
        causes := if state = .off then [] else [.following],
        drive := { Drive.reset with history := [(3, 16777217)], live := some Switches.none } }
    let judged (state : AxisState) : State × List Trigger :=
      handleRecord (withAxis (x state)) 7 3
        { channel := 2, switches := { Switches.none with home := true }, fault := true, actual := 0 }
    (judged .off).1.notices = [{ kind := .switch, index := 7, count := 1, detail := .switch }] ∧
      ((judged .off).1.axis 7).causes = [] ∧ (judged .off).2 = [{ kind := .switchChange, index := 7 }] ∧
      ((judged .halting).1.axis 7).causes = [.following, .driveFault] ∧
      ((judged .faulted).1.axis 7).causes = [.following, .driveFault] ∧
      (judged .halting).2 = [{ kind := .switchChange, index := 7 }] := by decide +kernel

/-- The upstream buffer with room for the last frame, and full. -/
theorem test_witness_DFrameDispatched_full :
    let waiting (n : Nat) : State :=
      { State.reset with ring := { Ring.reset with upstream := List.replicate n [1], uSending := some (.forwarded [1]) } }
    (after (.dFrameReceived (encodeFrame 9 31 [1])) (waiting 3)).ring.upstream.length = 4 ∧
      (after (.dFrameReceived (encodeFrame 9 31 [1])) (waiting 4)).ring.errorsD = 1 := by decide +kernel

theorem test_witness_FrameDispatched :
    Checked (encodeFrame 6 0 []) ∧ frameNode (encodeFrame 6 0 []) = 0 ∧ Checked (encodeFrame 6 32 []) ∧
      frameNode (encodeFrame 6 32 []) > 31 ∧ frameNode (encodeFrame 6 1 []) = 1 ∧ frameNode (encodeFrame 6 30 []) = 30 ∧
      frameKind (encodeFrame 6 30 []) = 6 ∧ frameNode (encodeFrame 6 31 []) = 31 ∧ Checked (encodeFrame 6 31 []) ∧
      frameKind (encodeFrame 3 0 []) = 3 ∧ Checked (encodeFrame 3 0 []) ∧ Checked (encodeFrame 6 30 []) ∧
      Ring.reset.downstream.length < 4 ∧
      ({ Ring.reset with downstream := [[1], [2], [3], [4]] } : Ring).downstream.length ≥ 4 := by decide +kernel

/-- A home edge in SEEK with a fresh match and a drive fault; a stale record; an OFF axis. -/
theorem test_witness_FeedbackRecordTaken :
    let x :=
      { movingSeven (.homing .seek) 470000 (-10000) with
        drive := { Drive.reset with history := [(3, 470000)], live := some Switches.none } }
    let r : FeedbackRecord := { channel := 2, switches := { Switches.none with home := true }, fault := true, actual := 466600 }
    (x.drive.history.find? fun e => decide (e.1 = 3)).map (·.2) = some 470000 ∧
      (x.drive.history.find? fun e => decide (e.1 = 4)).map (·.2) = none ∧ x.travel.switchMask.home = false ∧ axisSeven.state = .off ∧
      ((handleRecord (withAxis x) 7 3 r).1.axis 7).position = 203400 ∧
      ((handleRecord (withAxis x) 7 3 r).1.axis 7).drive.followError = some 3400 := by decide +kernel

theorem test_witness_FaultCauseTaken :
    axisSeven.state = .off ∧ (movingSeven .tracking 0 0).state = .tracking ∧
      Cause.following ∈ ({ movingSeven .halting 0 0 with causes := [.following] } : Axis).causes ∧
      Cause.driveFault ∉ ({ movingSeven .faulted 0 0 with causes := [.following] } : Axis).causes := by decide +kernel

/-! ## Hypotheses that are met: cues -/

def trigger : Trigger := { kind := .switchChange, index := 23 }

theorem test_witness_OccurrenceIsServiced :
    ({ evaluation .servicing with triggers := [trigger] } : Evaluation).triggers = [trigger] ∧
      ({ Cues.reset with held := [trigger] } : Cues).held = [trigger] ∧ State.reset.eval = none ∧ State.reset.cues.held = [] ∧
      (busy (.bodies 0) State.reset).eval ≠ none ∧ ∀ c, (State.reset.channel c).armed = false := by decide +kernel

def armedCues (action : CueAction) : State :=
  { State.reset with cues :=
    { channels := Cues.reset.channels.set 7
        { Channel.reset with armed := true, defined := true, mode := .counted, count := 1, remaining := 1, listEnd := 1, advance := true },
      list := [(0, action)], held := [] } }

/-- The servicing fires the channel that matches, its last firing; an occurrence of another index fires nothing. -/
theorem test_witness_OccurrenceIsServiced_fires :
    let s := armedCues (.note 5)
    (s.channel 7).armed = true ∧ (s.channel 7).trigger = { kind := .watchA, index := 0 } ∧
      (service s { kind := .watchA, index := 0 }).notices = [{ kind := .cue, index := 7, count := 2, detail := .cueExhausted }] ∧
      service s { kind := .watchA, index := 1 } = s := by decide +kernel

/-- A refused action: CHANNEL_ARM of an undefined channel. -/
theorem test_witness_FiringStepsChannel_refused :
    runAction (armedCues (.channelArm 6)) 7 (.channelArm 6) = none ∧
      (fire { armedCues (.channelArm 6) with
        cues := { (armedCues (.channelArm 6)).cues with
          channels := Cues.reset.channels.set 7 { Channel.reset with armed := true, defined := true } } } 7).notices =
        [{ kind := .cue, index := 7, count := 1, detail := .cueRefused 0 8 }] := by decide +kernel

/-- An action on another channel, and the two on the channel itself; the last firing of a counted channel. -/
theorem test_witness_FiringStepsChannel :
    (armedCues (.channelArm 6)).cueEntry 0 ≠ .channelArm 7 ∧ (armedCues (.channelDisarm 7)).cueEntry 0 = .channelDisarm 7 ∧
      (armedCues (.channelArm 7)).cueEntry 0 = .channelArm 7 ∧ ((armedCues (.channelArm 7)).channel 7).defined = true ∧
      ((fire (armedCues (.note 5)) 7).channel 7).armed = false ∧ ((fire (armedCues (.channelArm 7)) 7).channel 7).armed = true := by
  decide +kernel

theorem test_witness_CueActionsTakeEffect :
    positionInRange Axis.reset.travel.kind (2 ^ 32 - 1) = true ∧ positionInRange Axis.reset.travel.kind (2 ^ 32) = false := by
  decide +kernel

/-- TRACK within the limits, beyond them and in a state that refuses it; STOP in TRACKING, in SEEK and elsewhere. -/
theorem test_witness_CueActionsTakeEffect_axisState :
    let ran (state : AxisState) (position : Int) (stop : Bool) : Option AxisState :=
      (runAction (withAxis (movingSeven state position 0)) 0 (.axisState 7 stop)).map fun t => (t.axis 7).state
    ran .holding 1000000 false = some .tracking ∧ ran .holding 1000001 false = none ∧ ran .tracking 0 false = some .tracking ∧
      ran .off 0 false = none ∧ ran .tracking 0 true = some .holding ∧ ran (.homing .seek) 0 true = some (.homing .abandon) ∧
      ran .off 0 true = some .off ∧ ((armedCues .none).channel 7).defined = true ∧
      ((armedCues .none).channel 6).defined = false := by decide +kernel

/-! ## Hypotheses that are met: the ports -/

/-- A bad check; a bad length under a good check; both. -/
theorem test_witness_BadFramesAreDiscarded :
    let long := [1, 0, 0, 1] ++ natBytes 2 (checkOf [1, 0, 0, 1]).toNat
    (checkFails ((encodeFrame 1 0 []).take 5 ++ [0]) = true ∧ lengthFails ((encodeFrame 1 0 []).take 5 ++ [0]) = false) ∧
      (checkFails long = false ∧ lengthFails long = true) ∧ checkFails [1] = true ∧ lengthFails [1] = true := by decide +kernel

theorem test_witness_RequestsAreAdmittedOrDropped :
    Checked (encodeFrame 2 0 [9, 20]) ∧ framePayload (encodeFrame 2 0 [9, 20]) = [9, 20] ∧ frameKind (encodeFrame 2 0 [9]) = 2 ∧
      (framePayload (encodeFrame 2 0 [9])).length < 2 ∧ Checked (encodeFrame 2 0 [9]) ∧ Management.reset.freeCredits = 7 + 1 ∧
      ({ Management.reset with freeCredits := 0 } : Management).freeCredits = 0 := by decide +kernel

theorem test_witness_TransmittersChooseNext :
    ({ Ring.reset with dSending := some (.setpoint [1]) } : Ring).dSending ≠ none ∧
      ({ Ring.reset with uSending := some (.reply [1]) } : Ring).uSending = some (.reply [1]) := by decide +kernel

/-- What waits at the U transmitter: a class B and a class A notice, a reply, and a frame. -/
def waitingAtU (frame notice : Bool) (replies : List Reply) : State :=
  { withAxis { axisSeven with drive := { Drive.reset with live := some { Switches.none with home := true } } } with
    ring := { Ring.reset with uSending := some (.reply [1]), upstream := if frame then [[2]] else [] },
    mgmt := { Management.reset with freeCredits := 6, replies := replies },
    notices :=
      { kind := .switch, index := 7, count := 2, detail := .switch } ::
        if notice then [{ kind := .cadence, index := 0, count := 1, detail := .cadence false }] else [] }

/-- The forwarded frame first, then the class A notice, the reply, the class B notice; the SWITCH notice carries the live image and the
reported one, which becomes the live one. -/
theorem test_witness_TransmittersChooseNext_order :
    let reply : Reply := { tag := 9, code := 21, result := .ok, content := [] }
    let sent (s : State) : Option USending := (after .uTransmitEnd s).ring.uSending
    sent (waitingAtU true true [reply]) = some (.forwarded [2]) ∧
      sent (waitingAtU false true [reply]) = some (.notice (encodeFrame 4 0 [2, 0, 0, 1, 0])) ∧
      sent (waitingAtU false false [reply]) = some (.reply (encodeFrame 3 0 [9, 21, 0])) ∧
      sent (waitingAtU false false []) = some (.notice (encodeFrame 4 0 [3, 7, 1, 2, 1, 0])) ∧
      ((after .uTransmitEnd (waitingAtU false false [])).axis 7).drive.reported = { Switches.none with home := true } := by
  decide +kernel

/-- The D transmitter: a SETPOINT frame before a forwarded one. -/
theorem test_witness_TransmittersChooseNext_D :
    let sent (setpoints : List Frame) : Option DSending :=
      (after .dTransmitEnd
        { State.reset with
          ring := { Ring.reset with dSending := some (.forwarded [1]), setpoints := setpoints, downstream := [[2]] } }).ring.dSending
    sent [[3]] = some (.setpoint [3]) ∧ sent [] = some (.forwarded [2]) := by decide +kernel

/-- A raise that makes an entry, and one that coalesces at the highest count. -/
theorem test_witness_NoticesStaySound_raise :
    let old : Notice := { kind := .overrun, index := 0, count := 255, detail := .overrun 1 }
    raiseInto .fault 23 (.fault .following) [old] = [old, { kind := .fault, index := 23, count := 1, detail := .fault .following }] ∧
      raiseInto .overrun 0 (.overrun 2) [old] = [{ old with detail := .overrun 2 }] := by decide +kernel

/-! ## Hypotheses that are met: requests. The reply's third byte is its code. -/

/-- Each operand at an end of its range, and one past it. -/
theorem test_witness_ClockAndSiteRequests :
    replied (after .setEpoch (asked 2 (intBytes 8 epochMin))) = [9, 2, 0] ∧
      replied (after .setEpoch (asked 2 (intBytes 8 (epochMin - 1)))) = [9, 2, 2] ∧
      replied (after .setRate (asked 3 (intBytes 6 (2 ^ 44 - 1) ++ intBytes 6 (2 ^ 44 - 1)))) = [9, 3, 0] ∧
      replied (after .setRate (asked 3 (intBytes 6 0 ++ intBytes 6 0))) = [9, 3, 2] ∧
      replied (after .setEpochWatch (asked 4 (intBytes 4 5000000 ++ [flagByte false]))) = [9, 4, 0] ∧
      replied (after .setEpochWatch (asked 4 (intBytes 4 5000000 ++ [2]))) = [9, 4, 2] ∧
      replied (after .setCadence (asked 5 (natBytes 2 200 ++ natBytes 2 65535))) = [9, 5, 0] ∧
      replied (after .setCadence (asked 5 (natBytes 2 199 ++ natBytes 2 65535))) = [9, 5, 2] ∧
      replied (after .setSite (asked 6 (intBytes 4 (2 ^ 30) ++ intBytes 4 0))) = [9, 6, 0, 64, 0, 0, 0, 0, 0, 0, 0] ∧
      replied (after .setSite (asked 6 (intBytes 4 (2 ^ 30 + 1) ++ intBytes 4 0))) = [9, 6, 2] := by decide +kernel

theorem test_witness_ReadsAnswer :
    (replied (after .readStatus (asked 1 [codeByte 3]))).take 3 = [9, 1, 0] ∧
      replied (after .readStatus (asked 1 [codeByte 4])) = [9, 1, 2] ∧
      (replied (after .readAxis (asked 7 [23, 2]))).take 3 = [9, 7, 0] ∧ replied (after .readAxis (asked 7 [24, 2])) = [9, 7, 2] ∧
      (replied (after .readBody (asked 10 [0, 11]))).take 3 = [9, 10, 0] ∧
      replied (after .readBody (asked 10 [2, 0])) = [9, 10, 2] ∧
      (replied (after .readSegments (asked 13 (1 :: (natBytes 2 2047 ++ [1]))))).take 3 = [9, 13, 0] ∧
      replied (after .readSegments (asked 13 (1 :: (natBytes 2 2047 ++ [2])))) = [9, 13, 2] := by decide +kernel

theorem fits_segment : segment.Fits := by unfold Segment.Fits; decide +kernel
theorem fits_descriptor : ({ Descriptor.zero with length := 2048 } : Descriptor).Fits := by unfold Descriptor.Fits; decide +kernel

theorem test_witness_StoreWrites :
    segment.Fits ∧ ({ Descriptor.zero with length := 2048 } : Descriptor).Fits ∧
      Slots.wf Segment.zero ((asked 12 []).bank 1).slots = true ∧ (1 : Fin 2) ≠ (asked 12 []).store.active ∧
      replied (after .loadSegments (asked 12 (loadArgs 1 2047 [segment]))) = [9, 12, 0] ∧
      replied (after .loadSegments (asked 12 (loadArgs 1 2048 [segment]))) = [9, 12, 2] ∧
      replied (after .writeBody (asked 11 (bodyArgs 1 11 { Descriptor.zero with length := 2048 }))) = [9, 11, 0] ∧
      replied (after .writeBody (asked 11 (bodyArgs 0 11 { Descriptor.zero with length := 2048 }))) = [9, 11, 5] ∧
      replied (after .writeBody (asked 11 (bodyArgs 1 11 { Descriptor.zero with length := 2049 }))) = [9, 11, 2] :=
  ⟨fits_segment, fits_descriptor, by decide +kernel, by decide +kernel, by decide +kernel, by decide +kernel, by decide +kernel,
    by decide +kernel, by decide +kernel⟩

theorem test_witness_SwapRequests :
    let pending := { State.reset with store := { Store.reset with swap := .pendingNext } }
    replied (after .swapBanks (asked 14 [0])) = [9, 14, 0] ∧ replied (after .swapBanks (put 14 [0] pending)) = [9, 14, 4] ∧
      replied (after .swapBanks (asked 14 (1 :: intBytes 4 (-5000000)))) = [9, 14, 0] ∧
      replied (after .swapBanks (asked 14 (1 :: intBytes 4 (-5000001)))) = [9, 14, 2] ∧
      replied (after .cancelSwap (put 15 [] pending)) = [9, 15, 0] ∧ replied (after .cancelSwap (asked 15 [0])) = [9, 15, 2] ∧
      bankFailure { loadedBank with slots := [] } = some (4, .span, 0) := by decide +kernel

/-- Each check, failed at a boundary value: a window past slot 2,047, a span of 0, an end past day 5,000,000, an overlap. -/
theorem test_witness_SwapRequests_failures :
    let bank (base length : Nat) (gs : List Segment) : Bank :=
      { slots := (List.range gs.length).zip gs,
        descriptors := (Vector.replicate _ Descriptor.zero).set 11
          { Descriptor.zero with enabled := true, base := base, length := length } (by decide) }
    let late : Segment := { segment with start := 5000000, span := 2 }
    let overlap : Segment := { segment with start := 31 }
    bankFailure (bank 2047 2 []) = some (11, .window, 0) ∧ bankFailure (bank 2047 1 []) = some (11, .span, 0) ∧
      bankFailure (bank 0 2 [segment, late]) = some (11, .finish, 1) ∧
      bankFailure (bank 0 2 [segment, { late with span := 1 }]) = none ∧
      bankFailure (bank 0 2 [segment, overlap]) = some (11, .order, 1) := by decide +kernel

def note : List Byte := [10, 5, 0, 0, 0, 0, 0, 0, 0, 0, 0, 0, 0]

theorem test_witness_CueRequests :
    [note].map decodeCue = [CueAction.note 5].map some ∧ note.length = 13 ∧
      replied (after .writeCues (asked 16 ([255, 1] ++ note))) = [9, 16, 0] ∧
      replied (after .writeCues (asked 16 ([255, 2] ++ note ++ note))) = [9, 16, 2] ∧
      replied (after .writeCues (asked 16 ([0, 1] ++ note ++ [0]))) = [9, 16, 2] ∧
      replied (after .writeCues (asked 16 [0, 0])) = [9, 16, 2] ∧
      (replied (after .writeChannel (asked 17 [0, 7, 23, 1, 255, 255, 255, 0]))).take 3 = [9, 17, 0] ∧
      (replied (after .writeChannel (put 17 [7, 7, 23, 1, 0, 255, 255, 0] (armedCues .none)))).take 3 = [9, 17, 4] ∧
      (replied (after .writeChannel (asked 17 [0, 7, 24, 1, 0, 255, 255, 0]))).take 4 = [9, 17, 2, 0] ∧
      replied (after .writeChannel (asked 17 [8, 7, 23, 1, 0, 255, 255, 0])) = [9, 17, 2] ∧
      (replied (after .armChannel (put 18 [7] (armedCues .none)))).take 5 = [9, 18, 0, 7, 1] ∧
      (replied (after .armChannel (asked 18 [7, 0]))).take 4 = [9, 18, 2, 7] ∧
      (replied (after .disarmChannel (put 19 [7] (armedCues .none)))).take 5 = [9, 19, 0, 7, 0] ∧
      replied (after .disarmChannel (asked 19 [8])) = [9, 19, 2] := by decide +kernel

def known (x : Axis) (actual : Int) : Axis := { x with drive := { x.drive with actual := some actual } }

/-- A command of axis 7 in a state, and the code of its reply. -/
def commandCode (i : Instr) (code : Byte) (x : Axis) : Option Byte := (replied (after i (put 9 [7, code] (withAxis x))))[2]?

theorem test_witness_AxisCommandsTaken_enable :
    let absolute := { axisSeven with travel := { axisSeven.travel with homeMode := .absolute } }
    commandCode .enable 0 (movingSeven .holding 0 0) = some 4 ∧ commandCode .enable 0 Axis.reset = some 2 ∧
      commandCode .enable 0 axisSeven = some 4 ∧ commandCode .axisCommand 0 (known axisSeven 500000) = some 0 ∧
      commandCode .enable 0 (known absolute 1000000) = some 0 ∧ commandCode .enable 0 (known absolute 1000001) = some 2 := by
  decide +kernel

theorem test_witness_AxisCommandsTaken :
    commandCode .disable 1 (movingSeven .holding 0 0) = some 0 ∧ commandCode .axisCommand 1 (movingSeven .holding 0 1) = some 4 ∧
      commandCode .home 2 (movingSeven .holding 0 1) = some 0 ∧ commandCode .axisCommand 2 axisSeven = some 4 ∧
      commandCode .track 3 (movingSeven .tracking 0 1) = some 0 ∧ commandCode .track 3 (movingSeven .holding 1000000 0) = some 0 ∧
      commandCode .axisCommand 3 (movingSeven .holding 1000001 0) = some 2 ∧ commandCode .track 3 axisSeven = some 4 ∧
      commandCode .stop 4 (movingSeven .tracking 0 0) = some 0 ∧ commandCode .axisCommand 4 axisSeven = some 0 ∧
      commandCode .clearFault 5 (movingSeven .faulted 0 0) = some 0 ∧
      commandCode .clearFault 5 (movingSeven .halting 0 0) = some 4 ∧ commandCode .axisCommand 6 axisSeven = some 2 ∧
      replied (after .stop (asked 9 [24, 4])) = [9, 9, 2] ∧ replied (after .stop (asked 9 [7, 4, 0])) = [9, 9, 2] ∧
      replied (after .home (let s := asked 9 [7, 2]; { s with mgmt := { s.mgmt with mode := .showing } })) = [9, 9, 3] := by
  decide +kernel

/-- Unnamed fields, a travel field of a live axis, a travel write, a target write at an end of its range and past it. -/
theorem test_witness_AxisFieldsWritten :
    let live := State.reset.setAxis 7 (movingSeven .holding 0 0)
    replied (after .writeAxis (asked 8 (itemArgs 7 [(18, 0)]))) = [9, 8, 2] ∧
      replied (after .writeAxis (put 8 (itemArgs 7 [(5, 30000)]) live)) = [9, 8, 4] ∧
      replied (after .writeAxis
        (put 8 (itemArgs 7 [(5, 30000)]) { State.reset with mgmt := { Management.reset with mode := .showing } })) = [9, 8, 3] ∧
      replied (after .writeAxis (asked 8 (itemArgs 7 [(8, 1), (17, 2 ^ 32 - 1), (12, 30)]))) = [9, 8, 0] ∧
      replied (after .writeAxis (asked 8 (itemArgs 7 [(17, 5)]))) = [9, 8, 2] ∧
      replied (after .writeAxis (put 8 (itemArgs 7 [(42, absentValue), (32, 4), (33, 6), (37, -16)]) live)) = [9, 8, 0] ∧
      replied (after .writeAxis (put 8 (itemArgs 7 [(32, 4), (33, 7)]) live)) = [9, 8, 2] ∧
      replied (after .writeAxis (asked 8 [7])) = [9, 8, 2] ∧ replied (after .writeAxis (asked 8 (itemArgs 7 []))) = [9, 8, 0] := by
  decide +kernel

/-- The reply code to one item, or two, written to axis 7 after reset. -/
def writeCode (items : List (Nat × Int)) : Option Byte := (replied (after .writeAxis (asked 8 (itemArgs 7 items))))[2]?

/-- Each travel range at an end, and one past it. -/
theorem test_witness_AxisFieldsWritten_travel :
    writeCode [(1, 2)] = some 0 ∧ writeCode [(1, 3)] = some 2 ∧ writeCode [(2, 2 ^ 31 - 2)] = some 0 ∧
      writeCode [(2, 2 ^ 31 - 1)] = some 2 ∧ writeCode [(4, 1024)] = some 0 ∧ writeCode [(4, 0)] = some 2 ∧
      writeCode [(5, 2 ^ 28)] = some 0 ∧ writeCode [(5, 65535)] = some 2 ∧ writeCode [(6, 2 ^ 24)] = some 0 ∧
      writeCode [(7, 2 ^ 24 + 1)] = some 2 ∧ writeCode [(9, -2 ^ 20)] = some 0 ∧ writeCode [(9, 0)] = some 2 ∧
      writeCode [(10, 2 ^ 32 - 1)] = some 0 ∧ writeCode [(1, 2), (10, 2 ^ 32 + 1)] = some 2 ∧ writeCode [(11, 2 ^ 40)] = some 0 ∧
      writeCode [(12, 31)] = some 2 ∧ writeCode [(13, 3)] = some 0 ∧ writeCode [(14, 2 ^ 31)] = some 0 ∧
      writeCode [(15, 16)] = some 2 ∧ writeCode [(16, 7)] = some 0 ∧ writeCode [(16, 8)] = some 2 := by decide +kernel

/-- Each target range at an end, and one past it. -/
theorem test_witness_AxisFieldsWritten_target :
    writeCode [(32, 5), (33, 2 ^ 40)] = some 0 ∧ writeCode [(32, 6)] = some 2 ∧ writeCode [(32, 1), (33, 11)] = some 0 ∧
      writeCode [(32, 0), (33, 12)] = some 2 ∧ writeCode [(34, -2 ^ 31)] = some 0 ∧ writeCode [(35, 2 ^ 32 - 1)] = some 0 ∧
      writeCode [(1, 1), (35, 2 ^ 31)] = some 2 ∧ writeCode [(36, -1)] = some 2 ∧ writeCode [(37, -17)] = some 2 ∧
      writeCode [(38, 2 ^ 31)] = some 2 ∧ writeCode [(39, 2)] = some 2 ∧ writeCode [(40, 2 ^ 32)] = some 2 ∧
      writeCode [(1, 1), (43, 2 ^ 47 - 1)] = some 0 ∧ writeCode [(44, 1)] = some 0 ∧ writeCode [(45, -2 ^ 63)] = some 0 ∧
      writeCode [(42, -1)] = some 2 := by decide +kernel

theorem test_witness_ItemFits : ItemFits (255, -2 ^ 63) ∧ ItemFits (0, 2 ^ 63 - 1) := by unfold ItemFits; decide +kernel

theorem test_witness_ModesAndUnknownRequests :
    replied (after .enterShow (asked 20 [])) = [9, 20, 0] ∧
      replied (after .enterShow (put 20 [] (withAxis (movingSeven .unhomed 0 0)))) = [9, 20, 4, 7, 1] ∧
      replied (after .enterShow (asked 20 [0])) = [9, 20, 2] ∧ replied (after .enterSetup (asked 21 [0])) = [9, 21, 2] ∧
      replied (after .softReset (asked 22 [0])) = [9, 22, 2] ∧ replied (after .unknownRequest (asked 0 [])) = [9, 0, 1] ∧
      replied (after .unknownRequest (asked 23 [])) = [9, 23, 1] := by decide +kernel

theorem test_witness_RequestsWaitAndFrame :
    after .stop (busy (.bodies 0) (asked 9 [7, 4])) = busy (.bodies 0) (asked 9 [7, 4]) ∧ State.reset.mgmt.requests = [] ∧
      after .setEpoch State.reset = State.reset := by decide +kernel

/-- Another request at the head: each command that is not its own waits, at the first and the last code, and at the last byte. -/
theorem test_witness_RequestsWaitAndFrame_other :
    exec .readStatus (asked 2 []) = .next (asked 2 []) ∧ exec .setEpoch (asked 3 []) = .next (asked 3 []) ∧
      exec .softReset (asked 9 [7, 5]) = .next (asked 9 [7, 5]) ∧ exec .unknownRequest (asked 1 []) = .next (asked 1 []) ∧
      exec .unknownRequest (asked 22 [1]) = .next (asked 22 [1]) ∧ exec .stop (asked 9 [7, 3]) = .next (asked 9 [7, 3]) ∧
      exec .enable (asked 9 [7]) = .next (asked 9 [7]) ∧ exec .clearFault (asked 8 [7, 5]) = .next (asked 8 [7, 5]) :=
  ⟨rfl, rfl, rfl, rfl, rfl, rfl, rfl, rfl⟩

theorem test_witness_RecordsReadBack :
    Checked (encodeFrame 4 255 (List.replicate 16 255)) ∧ decodeSegment (encodeSegment segment) = segment := by decide +kernel

/-! ## Hypotheses that are met: the laws, with axis 7 TRACKING, its reply to a STOP still to be given -/

def lawful : State := put 9 [7, 4] (withAxis { movingSeven .tracking 1000000 0 with suppress := true })
def lawfulStep : State := { lawful with pending := [.stop] }

theorem test_witness_step_runs : ∃ t, step lawfulStep = .next t := ⟨_, rfl⟩

theorem test_witness_lawful_line : CreditsBalance lawfulStep ∧ BuffersBounded lawfulStep ∧ NothingWaitsOnIdle lawfulStep := by
  unfold CreditsBalance BuffersBounded NothingWaitsOnIdle; decide +kernel

theorem test_witness_lawful_reply : ResetReplyFirst lawfulStep := fun h => absurd h (by decide)

theorem test_witness_lawful_notices : NoticesSound lawfulStep.notices := ⟨List.nodup_nil, fun _ h => absurd h List.not_mem_nil⟩

theorem test_witness_lawful_store : EphemerisLaw lawfulStep.store := by unfold EphemerisLaw; decide +kernel

theorem test_witness_lawful_stores : StoresSound lawfulStep := by unfold StoresSound; decide +kernel

theorem test_witness_lawful_clock : ClockSound lawfulStep.clock := by
  refine ⟨by decide, by decide, by decide, by decide, by decide, by decide, fun e h => ?_, by decide, by decide, by decide,
    by decide, by decide⟩
  cases h

theorem lawful_axis (a : Fin Config.axisCount) :
    lawfulStep.axis a = if a = 7 then { movingSeven .tracking 1000000 0 with suppress := true } else Axis.reset := by
  revert a; decide +kernel

theorem test_witness_lawful_axes : AxesSound lawfulStep := by
  intro a
  rw [lawful_axis a]
  split
  · exact ⟨valid_seven, rfl, by decide +kernel, fun _ => by decide +kernel, by decide +kernel, fun h => absurd h (by decide), rfl, rfl,
      fun _ => by decide +kernel, by decide +kernel, by decide +kernel⟩
  · refine ⟨?_, rfl, by decide +kernel, fun h => absurd rfl h, by decide +kernel, fun _ => rfl, rfl, rfl, fun h => ?_, by decide +kernel,
      by decide +kernel⟩
    · unfold Travel.Valid; decide +kernel
    · cases h

theorem test_witness_lawful_channels : ChannelsDistinct lawfulStep := by
  intro a b
  rw [lawful_axis a, lawful_axis b]
  split
  · next h =>
      split
      · next g => exact fun _ _ _ => h.trans g.symm
      · exact fun _ h => absurd h (by decide)
  · exact fun h => absurd rfl h

/-- The highest index of each source kind, on the axis that may hold it. -/
theorem test_witness_sourceAs :
    sourceAs 0 .bodyLongitude 11 ∧ sourceAs 23 .bodyLatitude 11 ∧ sourceAs 23 .follow 22 ∧ sourceAs 0 .linear 0 ∧
      ¬sourceAs 23 .bodyLongitude 12 ∧ ¬sourceAs 23 .follow 23 ∧ ¬sourceAs 0 .follow 0 ∧ ¬sourceAs 5 .fixed 1 := by
  unfold sourceAs; decide

/-- Axis 7 as the shaper has left it, with the histories of three emissions, the last of cycle number 0. -/
def emitting : State :=
  { withAxis { movingSeven .holding 0 5 with drive := { Drive.reset with history := [(254, 1), (255, 2), (0, 3)] } } with
    eval :=
      some
        { evaluation (.shaping 8) with
          records := [{ axis := 7, node := 5, channel := 2, position := 0, velocity := 5, hold := true }] },
    pending := [.setpointEmission] }

theorem test_witness_HistoriesSound : HistoriesSound emitting ∧ ∃ t, step emitting = .next t := by
  refine ⟨⟨by unfold HistoryRuns; decide +kernel, fun ev h => ?_⟩, _, rfl⟩
  obtain rfl := Option.some.inj h
  show List.map _ _ = List.filter _ _
  decide +kernel

theorem test_witness_lawful_cues : CuesSound lawfulStep := by
  refine ⟨fun c => ?_, List.nodup_nil, fun _ h => absurd h List.not_mem_nil⟩
  have : lawfulStep.channel c = Channel.reset := by revert c; decide +kernel
  rw [this]
  unfold ChannelSound
  decide +kernel

theorem test_witness_lawful_completes : CompletesAtOnce lawfulStep := fun _ h => by cases h

end Sys2Proof.Tests
end

section
/-! The Sky Clock: what a sync does to sky time, and what it issues (R3 to R7, R10 to R13, R33 to R35). -/

namespace Sys2Proof.Machine

/-! ## What a sync does to sky time (R4 to R7) -/

theorem applySync_of_pendingSet {s : State} {e : Int} (pending : s.clock.pendingSet = some e) :
    applySync s = applyEpochSet s e := by
  simp [applySync, pending]

theorem applySync_of_no_pendingSet {s : State} (pending : s.clock.pendingSet = none) : applySync s = advanceEpoch s := by
  simp [applySync, pending]

/-- The rate and the epoch that a sync leaves where it passes no limit (R5, R6). -/
def steppedRate (c : Clock) : Int := rateStep c.rate c.target c.slew
def advancedEpoch (c : Clock) : Int := c.epoch + epochAdvance c.pattern (steppedRate c)

/-- The upper limit lies above the lower one, so that no advance passes both (R1). -/
theorem epochMin_le_epochMax : epochMin ≤ epochMax := by decide

theorem advanceEpoch_within {s : State} (lo : epochMin ≤ advancedEpoch s.clock) (hi : advancedEpoch s.clock ≤ epochMax) :
    advanceEpoch s =
      { s with
        clock :=
          { s.clock with
            rate := steppedRate s.clock, epoch := advancedEpoch s.clock, pattern := nextPattern s.clock.pattern } } :=
  (if_neg (Int.not_lt.mpr hi)).trans (if_neg (Int.not_lt.mpr lo))

theorem advanceEpoch_above {s : State} (past : advancedEpoch s.clock > epochMax) :
    advanceEpoch s =
      { s with
        clock := { s.clock with epoch := epochMax, rate := 0, target := 0, pattern := nextPattern s.clock.pattern },
        notices := raiseInto .epochLimit 0 (.epochLimit true) s.notices } :=
  if_pos past

theorem advanceEpoch_below {s : State} (past : advancedEpoch s.clock < epochMin) :
    advanceEpoch s =
      { s with
        clock := { s.clock with epoch := epochMin, rate := 0, target := 0, pattern := nextPattern s.clock.pattern },
        notices := raiseInto .epochLimit 0 (.epochLimit false) s.notices } :=
  (if_neg (Int.not_lt.mpr (Int.le_of_lt (Int.lt_of_lt_of_le past epochMin_le_epochMax)))).trans (if_pos past)

/-- An advance passes the upper limit, the lower one, or none. -/
theorem advanceEpoch_cases (c : Clock) :
    advancedEpoch c > epochMax ∨ advancedEpoch c < epochMin ∨ (epochMin ≤ advancedEpoch c ∧ advancedEpoch c ≤ epochMax) := by
  omega

/-- What a sync does to sky time touches the clock and the Notice Set alone. -/
theorem applySync_frame (s : State) :
    applySync s = { s with clock := (applySync s).clock, notices := (applySync s).notices } := by
  cases pending : s.clock.pendingSet with
  | some e => rw [applySync_of_pendingSet pending]; rfl
  | none =>
      rw [applySync_of_no_pendingSet pending]
      rcases advanceEpoch_cases s.clock with above | below | ⟨lo, hi⟩
      · rw [advanceEpoch_above above]
      · rw [advanceEpoch_below below]
      · rw [advanceEpoch_within lo hi]

@[simp] theorem applySync_eval (s : State) : (applySync s).eval = s.eval := by rw [applySync_frame]
@[simp] theorem applySync_store (s : State) : (applySync s).store = s.store := by rw [applySync_frame]
@[simp] theorem applySync_cues (s : State) : (applySync s).cues = s.cues := by rw [applySync_frame]

/-- Of the clock, the numbering of evaluations and what the last issue left are not a sync's to change before it issues. -/
theorem applySync_issue_fields (s : State) :
    (applySync s).clock.evalCount = s.clock.evalCount ∧ (applySync s).clock.prevEpoch = s.clock.prevEpoch := by
  cases pending : s.clock.pendingSet with
  | some e => rw [applySync_of_pendingSet pending]; exact ⟨rfl, rfl⟩
  | none =>
      rw [applySync_of_no_pendingSet pending]
      rcases advanceEpoch_cases s.clock with above | below | ⟨lo, hi⟩
      · rw [advanceEpoch_above above]; exact ⟨rfl, rfl⟩
      · rw [advanceEpoch_below below]; exact ⟨rfl, rfl⟩
      · rw [advanceEpoch_within lo hi]; exact ⟨rfl, rfl⟩

@[simp] theorem applySync_evalCount (s : State) : (applySync s).clock.evalCount = s.clock.evalCount :=
  (applySync_issue_fields s).1
@[simp] theorem applySync_prevEpoch (s : State) : (applySync s).clock.prevEpoch = s.clock.prevEpoch :=
  (applySync_issue_fields s).2

/-! ## The issue of an evaluation (R10, R13, R33 to R35) -/

/-- An issue touches the clock, the roles of the banks, the evaluation in flight and the Notice Set alone. -/
theorem issueEvaluation_frame (s : State) :
    issueEvaluation s =
      { s with
        clock := (issueEvaluation s).clock, store := (issueEvaluation s).store, eval := (issueEvaluation s).eval,
        notices := (issueEvaluation s).notices } := by
  unfold issueEvaluation State.applySwap
  dsimp only
  split <;> rfl

@[simp] theorem issueEvaluation_clock (s : State) :
    (issueEvaluation s).clock =
      { s.clock with evalCount := s.clock.evalCount + 1, setSinceIssue := false, prevEpoch := s.clock.epoch } := rfl

@[simp] theorem issueEvaluation_store (s : State) :
    (issueEvaluation s).store =
      if swapDue s.store.swap s.clock.epoch then { s.store with active := s.store.shadow, swap := .idle } else s.store := by
  unfold issueEvaluation State.applySwap
  dsimp only
  split <;> rfl

@[simp] theorem issueEvaluation_cues (s : State) : (issueEvaluation s).cues = s.cues := by rw [issueEvaluation_frame]

/-- BANK_SWAP is raised where a swap falls due (R35). -/
theorem issueEvaluation_notices (s : State) :
    (issueEvaluation s).notices =
      if swapDue s.store.swap s.clock.epoch then
        raiseInto .bankSwap 0 (.bankSwap s.store.shadow (s.clock.evalCount + 1)) s.notices
      else s.notices := by
  unfold issueEvaluation State.applySwap
  dsimp only
  split <;> rfl

/-- The epoch watch is tested at an issue: enabled, no epoch set since the last issue, and crossed (R13). -/
def watchedAtIssue (c : Clock) : Bool :=
  c.watchEnabled && !c.setSinceIssue && epochWatchCrossed (c.watchDay * turn) c.prevEpoch c.epoch

/-- The evaluation that an issue puts in flight (R10, R150). -/
theorem issueEvaluation_eval (s : State) :
    (issueEvaluation s).eval =
      some
        { number := s.clock.evalCount + 1, epoch := s.clock.epoch, prevEpoch := s.clock.prevEpoch,
          epochSet := s.clock.setSinceIssue, swapped := swapDue s.store.swap s.clock.epoch, stage := .bodies 0,
          suppressed := [],
          triggers :=
            (if swapDue s.store.swap s.clock.epoch then [{ kind := .bankSwap, index := 0 }] else []) ++
            (if watchedAtIssue s.clock then [{ kind := .epochWatch, index := 0 }] else []),
          records := [] } := rfl

theorem watchedAtIssue_iff (c : Clock) :
    watchedAtIssue c = true ↔
      c.watchEnabled = true ∧ c.setSinceIssue = false ∧
        ((c.epoch > c.prevEpoch ∧ c.prevEpoch < c.watchDay * turn ∧ c.watchDay * turn ≤ c.epoch) ∨
          (c.epoch < c.prevEpoch ∧ c.epoch ≤ c.watchDay * turn ∧ c.watchDay * turn < c.prevEpoch)) := by
  simp [watchedAtIssue, epochWatchCrossed, and_assoc]

/-! ## A sync taken whole (R3, R10, R12) -/

theorem takeSync_of_idle {s : State} (idle : s.eval = none) : takeSync s = issueEvaluation (applySync s) := by
  simp [takeSync, idle]

theorem takeSync_of_busy {s : State} {ev : Evaluation} (busy : s.eval = some ev) :
    takeSync s = (applySync s).raise .overrun 0 (.overrun ev.number) := by
  simp [takeSync, busy]

theorem takeSync_frame (s : State) :
    takeSync s =
      { s with
        clock := (takeSync s).clock, store := (takeSync s).store, eval := (takeSync s).eval,
        notices := (takeSync s).notices } := by
  cases inFlight : s.eval with
  | none =>
      rw [takeSync_of_idle inFlight, issueEvaluation_frame, applySync_frame]
  | some ev =>
      rw [takeSync_of_busy inFlight, applySync_frame]
      simp [State.raise, inFlight]

/-- Sky time after a sync is what its application leaves: an issue writes only its own three fields. -/
theorem takeSync_clock (s : State) :
    (takeSync s).clock =
      { (applySync s).clock with
        evalCount := (takeSync s).clock.evalCount, setSinceIssue := (takeSync s).clock.setSinceIssue,
        prevEpoch := (takeSync s).clock.prevEpoch } := by
  cases inFlight : s.eval with
  | none => rw [takeSync_of_idle inFlight]; rfl
  | some ev => rw [takeSync_of_busy inFlight]; rfl

/-! ## The statements on syncs -/

/-- Settles O9: the application of the set, and then the issue or the overrun, which leave sky time as applied. -/
theorem syncAppliesPendingSet : Obligations.SyncAppliesPendingSet := by
  intro s e pending
  have applied := applySync_of_pendingSet pending
  have clock := takeSync_clock s
  rw [applied] at clock
  refine ⟨applied, ?_, ?_, ?_, ?_, ?_, ?_, ?_⟩
  · rw [clock]; rfl
  · rw [clock]; rfl
  · rw [clock]; rfl
  · rw [clock]; rfl
  · rw [clock]; rfl
  · intro busy
    obtain ⟨ev, inFlight⟩ := Option.ne_none_iff_exists'.mp busy
    rw [takeSync_of_busy inFlight, applied]
    rfl
  · intro idle
    rw [takeSync_of_idle idle, applied]
    exact ⟨rfl, _, issueEvaluation_eval _, rfl, rfl⟩

/-- Settles O10: the advance within the limits, and then the issue or the overrun, which leave sky time as advanced. -/
theorem syncStepsRateAndEpoch : Obligations.SyncStepsRateAndEpoch := by
  intro s q pending rate lo hi
  obtain rfl : q = steppedRate s.clock := rate
  have applied := (applySync_of_no_pendingSet pending).trans (advanceEpoch_within lo hi)
  have clock := takeSync_clock s
  rw [applied] at clock
  refine ⟨applied, ?_, ?_, ?_, ?_⟩
  · rw [clock]
  · rw [clock]; rfl
  · rw [clock]
  · rw [clock]

/-- Settles O12: the two cases of the advance in which it passes a limit. -/
theorem epochLimitStopsSky : Obligations.EpochLimitStopsSky :=
  ⟨fun _ _ _ => rfl, fun _ pending =>
    ⟨fun past => (applySync_of_no_pendingSet pending).trans (advanceEpoch_above past),
      fun past => (applySync_of_no_pendingSet pending).trans (advanceEpoch_below past)⟩⟩

theorem nextPattern_eq {k : Nat} (lo : 1 ≤ k) (hi : k ≤ 16) : nextPattern k = if k = 16 then 1 else k + 1 := by
  unfold nextPattern; split <;> omega

/-- A sync with no epoch set pending moves the pattern on, whether or not its advance passes a limit (R6, R7). -/
theorem advanceEpoch_pattern (s : State) : (advanceEpoch s).clock.pattern = nextPattern s.clock.pattern := by
  rcases advanceEpoch_cases s.clock with above | below | ⟨lo, hi⟩
  · rw [advanceEpoch_above above]
  · rw [advanceEpoch_below below]
  · rw [advanceEpoch_within lo hi]

/-- The extra unit at a place is the rise of floor(k·r/16) from the place before, which is 0 or 1 as r is below 16 (R6). -/
theorem extraUnit_eq_rise (k : Nat) (q : Int) :
    extraUnit k q = (k : Int) * (q % 16) / 16 - ((k : Int) - 1) * (q % 16) / 16 := by
  have rise : (k : Int) * (q % 16) = ((k : Int) - 1) * (q % 16) + q % 16 := by
    rw [Int.sub_mul, Int.one_mul, Int.sub_add_cancel]
  unfold extraUnit
  rw [rise]
  generalize ((k : Int) - 1) * (q % 16) = before
  split <;> omega

/-- The rises telescope: after n places the extra units sum to floor(n·r/16) (R6). -/
theorem sum_epochAdvance (n : Nat) (q : Int) :
    ((List.range' 1 n).map fun k => epochAdvance k q).sum = n * (q / 16) + n * (q % 16) / 16 := by
  induction n with
  | zero => simp
  | succ n ih =>
      rw [List.range'_1_concat, List.map_append, List.sum_append, ih, List.map_singleton, List.sum_singleton, epochAdvance,
        extraUnit_eq_rise, Nat.add_comm 1 n]
      push_cast
      rw [Int.add_sub_cancel, Int.add_mul _ _ (q / 16), Int.one_mul]
      omega

/-- Settles O11: over sixteen places the rises telescope to the whole remainder of the rate. -/
theorem advanceFollowsPattern : Obligations.AdvanceFollowsPattern := by
  refine ⟨fun k q _ _ => ?_, fun s pending lo hi => ?_, fun k lo hi => nextPattern_eq lo hi, fun q => ?_⟩
  · have remainder : q - 16 * (q / 16) = q % 16 := by omega
    rw [remainder]
    rfl
  · have clock := takeSync_clock s
    rw [applySync_of_no_pendingSet pending] at clock
    rw [clock]
    exact (advanceEpoch_pattern s).trans (nextPattern_eq lo hi)
  · rw [sum_epochAdvance]
    omega

/-- Settles O13: with an evaluation in flight the sync is an overrun, with none it issues one. -/
theorem syncIssuesOrOverruns : Obligations.SyncIssuesOrOverruns := by
  intro s
  refine ⟨takeSync_frame s, fun ev busy => ?_, fun idle => ?_⟩
  · rw [takeSync_of_busy busy]
    exact ⟨rfl, (applySync_eval s).trans busy, applySync_evalCount s, applySync_prevEpoch s⟩
  · rw [takeSync_of_idle idle]
    refine ⟨?_, issueEvaluation_store _, ?_, _, issueEvaluation_eval _, ?_, rfl, applySync_prevEpoch s, rfl, rfl, rfl, rfl,
      rfl, ?_⟩
    · rw [issueEvaluation_clock, applySync_evalCount]
    · rw [issueEvaluation_notices, applySync_evalCount]
    · rw [applySync_evalCount]
    · simp only [watchedAtIssue_iff, applySync_prevEpoch]
      rfl

/-! ## Cadence (R15 to R17) -/

theorem cadenceStep_eq (s : State) :
    cadenceStep s =
      { s with
        clock :=
          { s.clock with
            cadence := .watching, cadenceTimer := some s.clock.cadenceTimeout, localGenerator := none },
        notices :=
          if s.clock.cadence = .localPaced then raiseInto .cadence 0 (.cadence true) s.notices else s.notices } := by
  unfold cadenceStep
  cases s.clock.cadence <;> rfl

theorem receiveCheck_of_checked {s : State} {port : Port} {f : Frame} (h : Checked f) : receiveCheck s port f = none := by
  simp [receiveCheck, h.1, h.2]

/-- A checked SYNC frame for the part's own node is an external sync (R159). -/
theorem dispatchU_sync {s : State} {f : Frame} (node : frameNode f = 0) (kind : frameKind f = kindSync) :
    dispatchU s f = externalSync s := by
  simp [dispatchU, node, kind]

/-- Settles O8: a timer's command by the cadence state in which it is due, and a SYNC frame through the dispatch of frames. -/
theorem cadenceAndSyncs : Obligations.CadenceAndSyncs := by
  intro s
  refine ⟨fun watching => ?_, fun other => ?_, fun paced => ?_, fun other => ?_, fun f checked node kind => ?_⟩
  · simp only [exec, execCadenceLoss, watching]
    rfl
  · show execCadenceLoss s = .next s
    unfold execCadenceLoss
    split
    · next watching => exact absurd watching other
    all_goals rfl
  · simp only [exec, execLocalSync, paced]
    rfl
  · show execLocalSync s = .next s
    unfold execLocalSync
    split
    · next paced => exact absurd paced other
    all_goals rfl
  · have received : exec (.uFrameReceived f) s = done (dispatchU s f) := by
      simp only [exec, execUFrameReceived, receiveCheck_of_checked checked]
    rw [received, dispatchU_sync node kind, externalSync, cadenceStep_eq]
    rfl

/-! ## The two resets (R19) -/

/-- A well-formed SOFT_RESET at the head of the queue acts when no evaluation is in flight (R170). -/
theorem exec_softReset_of_idle {s : State} {r : Request} {rest : List Request} (head : s.mgmt.requests = r :: rest)
    (code : r.code = 22) (bare : r.args = []) (idle : s.eval = none) :
    exec .softReset s = .next ((softResetState s r).answer r .ok []).settle := by
  have run : runSoftReset r s = accept (softResetState s r) [] := by simp [runSoftReset, bare]
  have due := execute_due (waits := true) (run := runSoftReset) head (mine := hasCode 22) (by simp [hasCode, code])
    (by simp [State.inFlight, idle])
  rw [run] at due
  exact due

/-- Settles O3: the power-on values, and the soft reset's, which the end of the step leaves. -/
theorem clockAfterResets : Obligations.ClockAfterResets := by
  refine fun s => ⟨⟨_, rfl, by simp [powerOnState, State.reset], by simp [powerOnState, State.reset, Clock.reset]⟩, ?_⟩
  intro r rest head code bare
  refine ⟨fun busy => execute_held (by simpa [State.inFlight, Option.isSome_iff_ne_none] using busy), fun idle => ?_⟩
  refine ⟨_, exec_softReset_of_idle head code bare idle, ?_, ?_, ?_⟩
  · simpa [softResetState] using idle
  · exact List.sublist_nil.mp (settle_notices ((softResetState s r).answer r .ok []))
  · simp [softResetState, Clock.softReset]

end Sys2Proof.Machine

end

section
/-! The requests of the Sky Clock and SET_SITE: fields of bytes read and written again, and each request on the operands its rule
accepts and on every other payload (R8, R9, R14, R18, R58, R184). -/

namespace Sys2Proof.Machine

/-! ## Fields of bytes written again as they were read -/

/-- The last byte is the low one: it is the remainder by 256, and the bytes before it the quotient. -/
theorem natBytes_beNat_append {bs : List Byte} {k : Nat} (before : natBytes k (beNat bs) = bs) (b : Byte) :
    natBytes (k + 1) (beNat (bs ++ [b])) = bs ++ [b] := by
  have small := b.isLt
  have high : (beNat bs * 256 + b.toNat) / 256 = beNat bs := by omega
  have low : BitVec.ofNat 8 (beNat bs * 256 + b.toNat) = b :=
    BitVec.eq_of_toNat_eq (by rw [BitVec.toNat_ofNat]; omega)
  rw [beNat_append_one, natBytes, high, low, before]

/-- An unsigned field, written again, is the bytes it was read from. -/
theorem natBytes_beNat {bs : List Byte} {k : Nat} (length : bs.length = k) : natBytes k (beNat bs) = bs := by
  induction k generalizing bs with
  | zero => rw [List.length_eq_zero_iff.mp length]; rfl
  | succ k ih =>
      have some : bs ≠ [] := fun none => by simp [none] at length
      rw [← List.dropLast_concat_getLast some]
      exact natBytes_beNat_append (ih (by rw [List.length_dropLast, length, Nat.add_sub_cancel])) _

/-- An unsigned field, written as an integer, is the bytes it was read from. -/
theorem intBytes_beNat {bs : List Byte} {k : Nat} (length : bs.length = k) : intBytes k (beNat bs) = bs := by
  subst length
  have small : ((beNat bs : Int) % ((256 ^ bs.length : Nat) : Int)).toNat = beNat bs := by
    rw [Int.emod_eq_of_lt (Int.natCast_nonneg _) (Int.ofNat_lt.mpr (beNat_lt bs)), Int.toNat_natCast]
  rw [intBytes, small, natBytes_beNat rfl]

/-- A signed field, written again, is the bytes it was read from. -/
theorem intBytes_beInt {bs : List Byte} {k : Nat} (length : bs.length = k) : intBytes k (beInt bs) = bs := by
  have same : beInt bs % ((256 ^ k : Nat) : Int) = (beNat bs : Int) % ((256 ^ k : Nat) : Int) := by
    subst length
    unfold beInt
    split
    · rfl
    · exact Int.sub_emod_right _ _
  have unsigned : intBytes k (beInt bs) = intBytes k (beNat bs) := by rw [intBytes, same]; rfl
  rw [unsigned, intBytes_beNat length]

theorem slice_length {bs : List Byte} {i k : Nat} (fits : i + k ≤ bs.length) : (slice bs i k).length = k := by
  simp only [slice, List.length_take, List.length_drop]
  omega

theorem slice_append_slice {bs : List Byte} {j k : Nat} (length : bs.length = j + k) : slice bs 0 j ++ slice bs j k = bs := by
  have rest : slice bs j k = bs.drop j := List.take_of_length_le (by rw [List.length_drop]; omega)
  rw [rest]
  exact List.take_append_drop j bs

/-- The last field of a payload. -/
theorem slice_append_last {a b : List Byte} {i k : Nat} (first : a.length = i) (last : b.length = k) :
    slice (a ++ b) i k = b := by
  have right := slice_append_right (b := b) (j := 0) (k := k) first
  rw [Nat.add_zero] at right
  rw [right, slice, List.drop_zero, List.take_of_length_le (Nat.le_of_eq last)]

theorem flagByte_toNat (b : Bool) : (flagByte b).toNat = b.toNat := by cases b <;> rfl

/-- A field of one byte that is 0 or 1 is a flag (R182). -/
theorem flagByte_field {bs : List Byte} (length : bs.length = 1) (lt : beNat bs < 2) :
    [flagByte (decide (beNat bs = 1))] = bs := by
  have field := natBytes_beNat length
  rw [← field, beNat_natBytes_of_lt (by omega)]
  have zeroOrOne : beNat bs = 0 ∨ beNat bs = 1 := by omega
  rcases zeroOrOne with h | h <;> rw [h] <;> rfl

/-! ## A request with its own code, answered -/

section answers

variable {i : Instr} {code : Byte} {waits : Bool} {run : Request → State → Answer} {s u : State} {r : Request}
  {rest : List Request}

theorem answers_of_accept {content : List Byte} (arm : exec i s = execute (hasCode code) waits run s)
    (head : s.mgmt.requests = r :: rest) (own : r.code = code) (free : (waits && s.inFlight) = false)
    (runs : run r s = accept u content) : Answers i s r u .ok content := by
  have due := execute_due (run := run) head (mine := hasCode code) (by simp [hasCode, own]) free
  rw [runs] at due
  exact arm.trans due

theorem answers_of_refuse {result : ReplyCode} (arm : exec i s = execute (hasCode code) waits run s)
    (head : s.mgmt.requests = r :: rest) (own : r.code = code) (free : (waits && s.inFlight) = false)
    (runs : run r s = refuse s result) : Answers i s r s result [] := by
  have due := execute_due (run := run) head (mine := hasCode code) (by simp [hasCode, own]) free
  rw [runs] at due
  exact arm.trans due

end answers

/-! ## SET_EPOCH (R8) -/

theorem runSetEpoch_accepts {r : Request} {e : Int} (s : State) (lo : epochMin ≤ e) (hi : e ≤ epochMax)
    (args : r.args = intBytes 8 e) :
    runSetEpoch r s = accept { s with clock := { s.clock with pendingSet := some e } } [] := by
  have read : beInt (intBytes 8 e) = e :=
    beInt_intBytes (by decide) (by unfold epochMin turn at lo; omega) (by unfold epochMax turn at hi; omega)
  simp [runSetEpoch, args, read, within_iff, lo, hi]

theorem runSetEpoch_refuses {r : Request} (s : State)
    (other : ∀ e, epochMin ≤ e → e ≤ epochMax → r.args ≠ intBytes 8 e) : runSetEpoch r s = refuse s .range := by
  refine if_neg fun ⟨length, inRange⟩ => ?_
  obtain ⟨lo, hi⟩ := within_iff.mp inRange
  exact other _ lo hi (intBytes_beInt length).symm

/-! ## SET_RATE (R9) -/

theorem rateAccepted_iff (qt slew : Int) :
    rateAccepted qt slew = true ↔ mag qt ≤ rateLimit ∧ 1 ≤ slew ∧ slew ≤ rateLimit := by
  simp [rateAccepted, within_iff, mag_le]

theorem runSetRate_accepts {r : Request} {qt slew : Int} (s : State) (rate : mag qt ≤ rateLimit) (lo : 1 ≤ slew)
    (hi : slew ≤ rateLimit) (args : r.args = intBytes 6 qt ++ intBytes 6 slew) :
    runSetRate r s = accept { s with clock := { s.clock with target := qt, slew := slew } } [] := by
  have accepted := (rateAccepted_iff qt slew).mpr ⟨rate, lo, hi⟩
  unfold rateLimit at rate hi
  rw [mag_le] at rate
  have readRate : beInt (intBytes 6 qt) = qt := beInt_intBytes (by decide) (by omega) (by omega)
  have readSlew : (beNat (intBytes 6 slew) : Int) = slew := beNat_intBytes (by omega) (by omega)
  have first : slice r.args 0 6 = intBytes 6 qt := by rw [args, slice_append_left (intBytes_length 6 qt)]
  have last : slice r.args 6 6 = intBytes 6 slew := by
    rw [args, slice_append_last (intBytes_length 6 qt) (intBytes_length 6 slew)]
  have length : r.args.length = 12 := by simp [args]
  unfold runSetRate
  rw [first, last, readRate, readSlew]
  exact if_pos ⟨length, accepted⟩

theorem runSetRate_refuses {r : Request} (s : State)
    (other : ∀ qt slew, mag qt ≤ rateLimit → 1 ≤ slew → slew ≤ rateLimit → r.args ≠ intBytes 6 qt ++ intBytes 6 slew) :
    runSetRate r s = refuse s .range := by
  refine if_neg fun ⟨length, accepted⟩ => ?_
  obtain ⟨rate, lo, hi⟩ := (rateAccepted_iff _ _).mp accepted
  refine other _ _ rate lo hi ?_
  rw [intBytes_beInt (slice_length (by omega)), intBytes_beNat (slice_length (by omega)), slice_append_slice length]

/-! ## SET_EPOCH_WATCH (R14) -/

theorem runSetEpochWatch_accepts {r : Request} {day : Int} {enable : Bool} (s : State) (lo : -dayLimit ≤ day)
    (hi : day ≤ dayLimit) (args : r.args = intBytes 4 day ++ [flagByte enable]) :
    runSetEpochWatch r s = accept { s with clock := { s.clock with watchDay := day, watchEnabled := enable } } [] := by
  have inRange := within_iff.mpr ⟨lo, hi⟩
  unfold dayLimit at lo hi
  have readDay : beInt (intBytes 4 day) = day := beInt_intBytes (by decide) (by omega) (by omega)
  have first : slice r.args 0 4 = intBytes 4 day := by rw [args, slice_append_left (intBytes_length 4 day)]
  have last : slice r.args 4 1 = [flagByte enable] := by
    rw [args, slice_append_last (intBytes_length 4 day) (List.length_singleton (a := flagByte enable))]
  have length : r.args.length = 5 := by simp [args]
  have flag : enable.toNat < 2 := Bool.toNat_lt enable
  have same : decide (enable.toNat = 1) = enable := by cases enable <;> rfl
  unfold runSetEpochWatch
  rw [first, last, readDay, beNat_singleton, flagByte_toNat]
  refine (if_pos ⟨length, flag, inRange⟩).trans ?_
  rw [same]
  rfl

theorem runSetEpochWatch_refuses {r : Request} (s : State)
    (other : ∀ day enable, -dayLimit ≤ day → day ≤ dayLimit → r.args ≠ intBytes 4 day ++ [flagByte enable]) :
    runSetEpochWatch r s = refuse s .range := by
  refine if_neg fun ⟨length, flag, inRange⟩ => ?_
  obtain ⟨lo, hi⟩ := within_iff.mp inRange
  refine other _ (decide (beNat (slice r.args 4 1) = 1)) lo hi ?_
  rw [intBytes_beInt (slice_length (by omega)), flagByte_field (slice_length (by omega)) flag, slice_append_slice length]

/-! ## SET_CADENCE (R18) -/

theorem periodAccepted_iff (n : Nat) : periodAccepted n = true ↔ 200 ≤ n ∧ n ≤ 65535 := by simp [periodAccepted]

theorem runSetCadence_accepts {r : Request} {timeout period : Nat} (s : State) (loT : 200 ≤ timeout) (hiT : timeout ≤ 65535)
    (loP : 200 ≤ period) (hiP : period ≤ 65535) (args : r.args = natBytes 2 timeout ++ natBytes 2 period) :
    runSetCadence r s =
      accept { s with clock := { s.clock with cadenceTimeout := timeout, localPeriod := period } } [] := by
  have first : slice r.args 0 2 = natBytes 2 timeout := by rw [args, slice_append_left (natBytes_length 2 timeout)]
  have last : slice r.args 2 2 = natBytes 2 period := by
    rw [args, slice_append_last (natBytes_length 2 timeout) (natBytes_length 2 period)]
  have length : r.args.length = 4 := by simp [args]
  unfold runSetCadence
  rw [first, last, beNat_natBytes_of_lt (by omega), beNat_natBytes_of_lt (by omega)]
  exact if_pos ⟨length, (periodAccepted_iff _).mpr ⟨loT, hiT⟩, (periodAccepted_iff _).mpr ⟨loP, hiP⟩⟩

theorem runSetCadence_refuses {r : Request} (s : State)
    (other : ∀ timeout period, 200 ≤ timeout → timeout ≤ 65535 → 200 ≤ period → period ≤ 65535 →
      r.args ≠ natBytes 2 timeout ++ natBytes 2 period) :
    runSetCadence r s = refuse s .range := by
  refine if_neg fun ⟨length, timeout, period⟩ => ?_
  obtain ⟨loT, hiT⟩ := (periodAccepted_iff _).mp timeout
  obtain ⟨loP, hiP⟩ := (periodAccepted_iff _).mp period
  refine other _ _ loT hiT loP hiP ?_
  rw [natBytes_beNat (slice_length (by omega)), natBytes_beNat (slice_length (by omega)), slice_append_slice length]

/-! ## SET_SITE (R58) -/

theorem runSetSite_accepts {r : Request} {lat lon : Int} (s : State) (loLat : -quarterTurn ≤ lat) (hiLat : lat ≤ quarterTurn)
    (loLon : 0 ≤ lon) (hiLon : lon < turn) (args : r.args = intBytes 4 lat ++ intBytes 4 lon) :
    runSetSite r s = accept { s with site := { latitude := lat, longitude := lon, changed := true } } r.args := by
  have inRange := within_iff.mpr ⟨loLat, hiLat⟩
  unfold quarterTurn at loLat hiLat
  unfold turn at hiLon
  have readLat : beInt (intBytes 4 lat) = lat := beInt_intBytes (by decide) (by omega) (by omega)
  have readLon : (beNat (intBytes 4 lon) : Int) = lon := beNat_intBytes loLon (by omega)
  have first : slice r.args 0 4 = intBytes 4 lat := by rw [args, slice_append_left (intBytes_length 4 lat)]
  have last : slice r.args 4 4 = intBytes 4 lon := by
    rw [args, slice_append_last (intBytes_length 4 lat) (intBytes_length 4 lon)]
  have length : r.args.length = 8 := by simp [args]
  unfold runSetSite
  rw [first, last, readLat, readLon]
  dsimp only
  rw [← args]
  exact if_pos ⟨length, inRange⟩

theorem runSetSite_refuses {r : Request} (s : State)
    (other : ∀ lat lon : Int, -quarterTurn ≤ lat → lat ≤ quarterTurn → 0 ≤ lon → lon < turn →
      r.args ≠ intBytes 4 lat ++ intBytes 4 lon) :
    runSetSite r s = refuse s .range := by
  refine if_neg fun ⟨length, inRange⟩ => ?_
  obtain ⟨lo, hi⟩ := within_iff.mp inRange
  have small := beNat_lt (slice r.args 4 4)
  rw [slice_length (by omega)] at small
  refine other _ _ lo hi (Int.natCast_nonneg (beNat (slice r.args 4 4))) (by unfold turn; omega) ?_
  rw [intBytes_beInt (slice_length (by omega)), intBytes_beNat (slice_length (by omega)), slice_append_slice length]

/-! ## The statement on the requests -/

/-- Settles O43: each request on the operands its rule accepts, and on every other payload. -/
theorem clockAndSiteRequests : Obligations.ClockAndSiteRequests := by
  intro s r rest head
  refine ⟨fun code => ⟨fun e lo hi args => ?_, fun other => ?_⟩,
    fun code => ⟨fun qt slew rate lo hi args => ?_, fun other => ?_⟩,
    fun code => ⟨fun day enable lo hi args => ?_, fun other => ?_⟩,
    fun code => ⟨fun timeout period loT hiT loP hiP args => ?_, fun other => ?_⟩,
    fun code idle => ⟨fun lat lon loLat hiLat loLon hiLon args => ?_, fun other => ?_⟩⟩
  · exact answers_of_accept rfl head code rfl (runSetEpoch_accepts s lo hi args)
  · exact answers_of_refuse rfl head code rfl (runSetEpoch_refuses s other)
  · exact answers_of_accept rfl head code rfl (runSetRate_accepts s rate lo hi args)
  · exact answers_of_refuse rfl head code rfl (runSetRate_refuses s other)
  · exact answers_of_accept rfl head code rfl (runSetEpochWatch_accepts s lo hi args)
  · exact answers_of_refuse rfl head code rfl (runSetEpochWatch_refuses s other)
  · exact answers_of_accept rfl head code rfl (runSetCadence_accepts s loT hiT loP hiP args)
  · exact answers_of_refuse rfl head code rfl (runSetCadence_refuses s other)
  · exact answers_of_accept rfl head code (by simp [State.inFlight, idle])
      (runSetSite_accepts s loLat hiLat loLon hiLon args)
  · exact answers_of_refuse rfl head code (by simp [State.inFlight, idle]) (runSetSite_refuses s other)

end Sys2Proof.Machine

end

section
/-! The Cue Engine: the laws of a channel under each of its operations, and what the servicing of an occurrence can change
(R145 to R157). -/

namespace Sys2Proof.Machine

/-- What is answered under a guard, and not refused, has passed it. -/
theorem passed_of_guarded {α : Type} {p : Prop} [Decidable p] {u t : α} (answered : (if p then some u else none) = some t) :
    p ∧ u = t := by
  simpa using answered

/-! ## The laws of a channel (R145, R147) -/

theorem Channel.arm_sound {c : Channel} (sound : ChannelSound c) (isDefined : c.defined = true) : ChannelSound c.arm := by
  obtain ⟨_, counted, _, count, remaining, start, finish, listEnd, trigger⟩ := sound
  refine ⟨fun _ => isDefined, counted, fun ⟨_, mode⟩ => ?_, count, ?_, Nat.le_refl _, Nat.le_trans start finish, listEnd, trigger⟩
  · have mode : c.mode = .counted := mode
    simpa [Channel.arm, mode] using counted ⟨isDefined, mode⟩
  · cases mode : c.mode <;> simpa [Channel.arm, mode]

theorem Channel.disarm_sound {c : Channel} (sound : ChannelSound c) : ChannelSound c.disarm := by
  obtain ⟨_, counted, _, count, remaining, start, finish, listEnd, trigger⟩ := sound
  exact ⟨nofun, counted, fun held => (nomatch held.1), count, remaining, start, finish, listEnd, trigger⟩

theorem Channel.softReset_sound {c : Channel} (sound : ChannelSound c) : ChannelSound c.softReset := by
  obtain ⟨_, counted, _, count, _, start, finish, listEnd, trigger⟩ := sound
  exact ⟨nofun, counted, fun held => (nomatch held.1), count, Nat.zero_le _, Nat.le_refl _, Nat.le_trans start finish, listEnd,
    trigger⟩

/-- The cursor after a step (R153). -/
def Channel.movedCursor (c : Channel) : Nat :=
  if c.advance then (if c.cursor = c.listEnd then c.listStart else c.cursor + 1) else c.cursor

theorem Channel.movedCursor_range {c : Channel} (start : c.listStart ≤ c.cursor) (finish : c.cursor ≤ c.listEnd) :
    c.listStart ≤ c.movedCursor ∧ c.movedCursor ≤ c.listEnd := by
  unfold Channel.movedCursor
  repeat' split
  all_goals omega

theorem Channel.moved_eq (c : Channel) :
    (if c.advance then { c with cursor := if c.cursor = c.listEnd then c.listStart else c.cursor + 1 } else c) =
      { c with cursor := c.movedCursor } := by
  unfold Channel.movedCursor
  split <;> rfl

theorem Channel.step_of_continuous {c : Channel} (mode : c.mode = .continuous) :
    c.step = { c with cursor := c.movedCursor } := by
  unfold Channel.step
  rw [Channel.moved_eq]
  dsimp only
  rw [mode]

/-- In COUNTED mode a step counts the firing (R154). -/
theorem Channel.step_of_counted {c : Channel} (mode : c.mode = .counted) :
    c.step =
      { c with
        cursor := c.movedCursor, remaining := c.remaining - 1, armed := c.armed && decide (c.remaining - 1 ≠ 0) } := by
  unfold Channel.step
  rw [Channel.moved_eq]
  dsimp only
  rw [mode]

theorem Channel.step_sound {c : Channel} (sound : ChannelSound c) : ChannelSound c.step := by
  obtain ⟨armed, counted, left, count, remaining, start, finish, listEnd, trigger⟩ := sound
  obtain ⟨lo, hi⟩ := Channel.movedCursor_range start finish
  cases mode : c.mode with
  | continuous =>
      rw [Channel.step_of_continuous mode]
      exact ⟨armed, counted, left, count, remaining, lo, hi, listEnd, trigger⟩
  | counted =>
      rw [Channel.step_of_counted mode]
      refine ⟨fun stays => ?_, counted, fun ⟨stays, _⟩ => ?_, count, Nat.le_trans (Nat.sub_le _ _) remaining, lo, hi, listEnd,
        trigger⟩
      all_goals simp only [Bool.and_eq_true, decide_eq_true_eq] at stays
      · exact armed stays.1
      · exact Nat.one_le_iff_ne_zero.mpr stays.2

theorem channelSound_reset : ChannelSound Channel.reset := by
  unfold ChannelSound
  decide

/-- The channel that a WRITE_CHANNEL defines keeps the laws (R146). -/
theorem decodeChannel_sound {args : List Byte} {x : Channel} (decoded : decodeChannel args = some x) : ChannelSound x := by
  unfold decodeChannel at decoded
  split at decoded
  case h_2 => cases decoded
  case h_1 number kind index mode count first last advance bytes =>
    have small : ∀ n ∈ [number, kind, index, mode, count, first, last, advance], n < 256 := by
      rw [← bytes, List.forall_mem_map]
      exact fun b _ => b.isLt
    have countSmall : count < 256 := small count (by simp)
    have lastSmall : last < 256 := small last (by simp)
    split at decoded
    case h_1 => cases decoded
    case h_2 k _ =>
      obtain ⟨⟨inKind, _, counts, order, _⟩, rfl⟩ := passed_of_guarded decoded
      refine ⟨nofun, fun ⟨_, counted⟩ => ?_, nofun, ?_, Nat.zero_le _, Nat.le_refl _, order, lastSmall, inKind⟩
      · have counts : mode = 0 → 1 ≤ count := by omega
        by_cases zero : mode = 0
        · simpa [zero] using counts zero
        · simp [zero] at counted
      · show (if mode = 0 then count else 0) ≤ 255
        split <;> omega

/-- Writing one channel soundly keeps the laws of all. -/
theorem setChannel_sound {s : State} {c : Fin Config.channelCount} {x : Channel} (sound : ∀ d, ChannelSound (s.channel d))
    (written : ChannelSound x) (d : Fin Config.channelCount) : ChannelSound ((s.setChannel c x).channel d) := by
  by_cases same : d = c
  · rw [same, State.channel_setChannel_same]
    exact written
  · rw [State.channel_setChannel_of_ne s c d x same]
    exact sound d

/-! ## What servicing can change -/

/-- What the servicing of occurrences can do: it writes the clock, the axes, the channels and the Notice Set and leaves the rest as
it stands, and it writes neither the clock nor a channel against its laws. -/
structure CueStep (s t : State) : Prop where
  frame : t = { s with clock := t.clock, axes := t.axes, cues := t.cues, notices := t.notices }
  list : t.cues.list = s.cues.list
  held : t.cues.held = s.cues.held
  clock : ClockSound s.clock → ClockSound t.clock
  channels : (∀ c, ChannelSound (s.channel c)) → ∀ c, ChannelSound (t.channel c)

namespace CueStep

theorem refl (s : State) : CueStep s s := ⟨rfl, rfl, rfl, id, id⟩

theorem trans {s t u : State} (first : CueStep s t) (second : CueStep t u) : CueStep s u where
  frame := by rw [second.frame, first.frame]
  list := second.list.trans first.list
  held := second.held.trans first.held
  clock := second.clock ∘ first.clock
  channels := second.channels ∘ first.channels

/-- A change of axes and notices alone. -/
theorem of_axes {s t : State} {axes : Vector Axis Config.axisCount} {notices : List Notice}
    (frame : t = { s with axes := axes, notices := notices }) : CueStep s t := by
  rw [frame]
  exact ⟨rfl, rfl, rfl, id, id⟩

theorem setAxis (s : State) (a : Fin Config.axisCount) (x : Axis) : CueStep s (s.setAxis a x) := of_axes rfl

theorem raise (s : State) (k : NoticeKind) (i : Nat) (d : Detail) : CueStep s (s.raise k i d) := of_axes rfl

theorem setChannel {s : State} {c : Fin Config.channelCount} {x : Channel} (written : ChannelSound (s.channel c) → ChannelSound x) :
    CueStep s (s.setChannel c x) :=
  ⟨rfl, rfl, rfl, id, fun sound => setChannel_sound sound (written (sound c))⟩

end CueStep

/-- TRACK and STOP write the axes alone (R108, R109). -/
theorem trackAxis_frame (s : State) (a : Fin Config.axisCount) :
    (trackAxis s a).state = { s with axes := (trackAxis s a).state.axes } := by
  unfold trackAxis
  dsimp only
  repeat' split
  all_goals rfl

theorem stopAxis_frame (s : State) (a : Fin Config.axisCount) :
    (stopAxis s a).state = { s with axes := (stopAxis s a).state.axes } := by
  unfold stopAxis
  dsimp only
  repeat' split
  all_goals rfl

/-! ## The clock under the cue actions and the requests that write it -/

theorem ClockSound.writeRate {c : Clock} (sound : ClockSound c) {qt slew : Int} (accepted : rateAccepted qt slew = true) :
    ClockSound { c with target := qt, slew := slew } := by
  obtain ⟨epoch, prev, rate, _, _, rest⟩ := sound
  obtain ⟨target, lo, hi⟩ := (rateAccepted_iff qt slew).mp accepted
  exact ⟨epoch, prev, rate, target, ⟨lo, hi⟩, rest⟩

theorem ClockSound.writeWatch {c : Clock} (sound : ClockSound c) {day : Int} (enable : Bool)
    (accepted : within (-dayLimit) dayLimit day = true) : ClockSound { c with watchDay := day, watchEnabled := enable } := by
  obtain ⟨epoch, prev, rate, target, slew, pattern, pending, _, rest⟩ := sound
  exact ⟨epoch, prev, rate, target, slew, pattern, pending, within_iff.mp accepted, rest⟩

/-- An action that is not refused (R155). -/
theorem runAction_cueStep {s t : State} {firing : Fin Config.channelCount} {action : CueAction}
    (runs : runAction s firing action = some t) : CueStep s t := by
  cases action with
  | none =>
      obtain rfl := Option.some.inj runs
      exact .refl s
  | axisSource a k index =>
      obtain ⟨_, rfl⟩ := passed_of_guarded runs
      exact .setAxis s a _
  | axisOffset a v =>
      obtain rfl := Option.some.inj runs
      exact .setAxis s a _
  | axisScale a v =>
      obtain rfl := Option.some.inj runs
      exact .setAxis s a _
  | axisState a stop =>
      cases stop with
      | true =>
          obtain ⟨_, rfl⟩ := passed_of_guarded (u := (stopAxis s a).state) runs
          exact .of_axes (stopAxis_frame s a)
      | false =>
          obtain ⟨_, rfl⟩ := passed_of_guarded (u := (trackAxis s a).state) runs
          exact .of_axes (trackAxis_frame s a)
  | clockRate qt slew =>
      obtain ⟨accepted, rfl⟩ := passed_of_guarded runs
      exact ⟨rfl, rfl, rfl, fun sound => sound.writeRate accepted, id⟩
  | watchLoad a watchB buffer v =>
      obtain ⟨_, rfl⟩ := passed_of_guarded runs
      exact .setAxis s a _
  | epochWatchSet day enable =>
      obtain ⟨accepted, rfl⟩ := passed_of_guarded runs
      exact ⟨rfl, rfl, rfl, fun sound => sound.writeWatch enable accepted, id⟩
  | channelArm c =>
      obtain ⟨isDefined, rfl⟩ := passed_of_guarded runs
      exact .setChannel fun sound => Channel.arm_sound sound isDefined
  | channelDisarm c =>
      obtain rfl := Option.some.inj runs
      exact .setChannel Channel.disarm_sound
  | note code =>
      obtain rfl := Option.some.inj runs
      exact .raise s _ _ _

theorem stepChannel_cueStep (s : State) (c : Fin Config.channelCount) : CueStep s (stepChannel s c) := by
  have stepped : CueStep s (s.setChannel c (s.channel c).step) := .setChannel Channel.step_sound
  unfold stepChannel
  dsimp only
  split
  · exact stepped.trans (.raise _ _ _ _)
  · exact stepped

/-- What the action at the cursor leaves, executed or refused (R153, R156). -/
theorem fire_cueStep (s : State) (c : Fin Config.channelCount) : CueStep s (fire s c) := by
  have acted : CueStep s
      (match runAction s c (s.cueEntry (s.channel c).cursor) with
        | some t => t
        | none => s.raise .cue c.val (.cueRefused (s.channel c).cursor (s.cueEntry (s.channel c).cursor).code)) := by
    split
    · next runs => exact runAction_cueStep runs
    · exact .raise s _ _ _
  unfold fire
  dsimp only
  split
  · exact acted
  · exact acted.trans (stepChannel_cueStep _ c)

/-- An occurrence serviced: its firings, one after another (R152). -/
theorem service_cueStep (s : State) (t : Trigger) : CueStep s (service s t) := by
  refine List.foldlRecOn _ _ (.refl s) fun u done c _ => ?_
  split
  · exact done.trans (fire_cueStep u c)
  · exact done

@[simp] theorem service_eval (s : State) (t : Trigger) : (service s t).eval = s.eval := by rw [(service_cueStep s t).frame]

/-- With no channel armed for it an occurrence has no effect (R152). -/
theorem service_of_no_match {s : State} {t : Trigger}
    (idle : ∀ c, (s.channel c).armed = true → (s.channel c).trigger ≠ t) : service s t = s := by
  have none : (List.finRange Config.channelCount).filter (matching s t) = [] := by
    simpa [List.filter_eq_nil_iff, matching] using idle
  rw [service, none]
  rfl

/-! ## The completion of an evaluation (R11) -/

theorem completeIfServiced_frame (s : State) : s.completeIfServiced = { s with eval := s.completeIfServiced.eval } := by
  unfold State.completeIfServiced
  split
  · split <;> rfl
  · rfl

theorem completeIfServiced_eval {s : State} {ev : Evaluation} (inFlight : s.eval = some ev) (stage : ev.stage = .servicing) :
    s.completeIfServiced.eval = if ev.triggers = [] then none else some ev := by
  unfold State.completeIfServiced
  simp only [inFlight, stage, true_and]
  split
  · rfl
  · exact inFlight

/-- After the test for completion no evaluation stands in its servicing without a trigger. -/
theorem completeIfServiced_completes (s : State) : CompletesAtOnce s.completeIfServiced := by
  intro ev inFlight stage none
  cases before : s.eval with
  | none => simp [State.completeIfServiced, before] at inFlight
  | some e =>
      by_cases serviced : e.stage = .servicing ∧ e.triggers = []
      · simp [State.completeIfServiced, before, serviced] at inFlight
      · have kept : s.completeIfServiced = s := by simp [State.completeIfServiced, before, serviced]
        rw [kept, before] at inFlight
        obtain rfl := Option.some.inj inFlight
        exact serviced ⟨stage, none⟩

/-! ## The occurrences of an evaluation and of FEEDBACK records (R150, R151) -/

theorem exec_occurrenceService_of_servicing {s : State} {ev : Evaluation} {t : Trigger} {rest : List Trigger}
    (inFlight : s.eval = some ev) (stage : ev.stage = .servicing) (triggers : ev.triggers = t :: rest) :
    exec .occurrenceService s =
      .next (service { s with eval := some { ev with triggers := rest } } t).completeIfServiced.settle := by
  simp [exec, execOccurrenceService, inFlight, stage, triggers, done]

theorem exec_occurrenceService_of_held {s : State} {t : Trigger} {rest : List Trigger} (idle : s.eval = none)
    (held : s.cues.held = t :: rest) :
    exec .occurrenceService s = .next (service { s with cues := { s.cues with held := rest } } t).settle := by
  simp [exec, execOccurrenceService, idle, held, done]

theorem handOccurrence_of_quiet {s : State} (t : Trigger) (idle : s.eval = none) (held : s.cues.held = []) :
    handOccurrence s t = service s t := by
  simp [handOccurrence, State.inFlight, idle, held]

theorem handOccurrence_of_waiting {s : State} (t : Trigger) (waits : s.eval ≠ none ∨ s.cues.held ≠ []) :
    handOccurrence s t =
      if t ∈ s.cues.held then s else { s with cues := { s.cues with held := s.cues.held ++ [t] } } := by
  refine if_pos ?_
  simpa [State.inFlight, Option.isSome_iff_ne_none] using waits

/-- Settles O36: the two sources of a servicing, the servicing itself, and the three ways of an occurrence of a record. -/
theorem occurrenceIsServiced : Obligations.OccurrenceIsServiced := by
  intro s t rest
  refine ⟨fun ev inFlight stage triggers => ?_, exec_occurrenceService_of_held, rfl, fun u serviced => ?_,
    service_of_no_match, handOccurrence_of_quiet t, handOccurrence_of_waiting t⟩
  · have after := service_eval { s with eval := some { ev with triggers := rest } } t
    exact ⟨_, exec_occurrenceService_of_servicing inFlight stage triggers, completeIfServiced_eval after stage,
      completeIfServiced_frame _⟩
  · have step := service_cueStep s t
    rw [serviced]
    exact ⟨step.frame, step.list, step.held⟩

end Sys2Proof.Machine

end

section
/-! The emission of the SETPOINT frame: what the tests of its axes leave and find, and the frame handed over (R122, R123). -/

namespace Sys2Proof.Machine

/-! ## What a fault cause leaves and finds (R116, R117) -/

/-- Two records of an axis with the same motion, offset, travel and target fields. -/
structure SameCourse (x y : Axis) : Prop where
  position : y.position = x.position
  velocity : y.velocity = x.velocity
  offset : y.offset = x.offset
  travel : y.travel = x.travel
  target : y.target = x.target

theorem SameCourse.refl (x : Axis) : SameCourse x x := ⟨rfl, rfl, rfl, rfl, rfl⟩

theorem SameCourse.trans {x y z : Axis} (first : SameCourse x y) (second : SameCourse y z) : SameCourse x z :=
  ⟨second.position.trans first.position, second.velocity.trans first.velocity, second.offset.trans first.offset,
    second.travel.trans first.travel, second.target.trans first.target⟩

/-- Writing one axis with the same course leaves the course of every axis. -/
theorem sameCourse_setAxis {s : State} {a : Fin Config.axisCount} {x : Axis} (course : SameCourse (s.axis a) x)
    (b : Fin Config.axisCount) : SameCourse (s.axis b) ((s.setAxis a x).axis b) := by
  by_cases same : b = a
  · subst same
    rwa [State.axis_setAxis_same]
  · rw [State.axis_setAxis_of_ne s a b x same]
    exact .refl _

/-- A fault cause is passed over, or written to its axis and raised, and then it gives no trigger or the axis' AXIS_EVENT. -/
theorem raiseFault_cases (s : State) (a : Fin Config.axisCount) (c : Cause) :
    s.raiseFault a c = (s, []) ∨
      ∃ x ts, SameCourse (s.axis a) x ∧ (ts = [] ∨ ts = [{ kind := .axisEvent, index := a.val }]) ∧
        s.raiseFault a c = ((s.setAxis a x).raise .fault a.val (.fault c), ts) := by
  unfold State.raiseFault
  dsimp only
  split
  · exact .inl rfl
  case' h_2 | h_3 => split
  any_goals exact .inl rfl
  all_goals refine .inr ⟨_, _, ?_, ?_, rfl⟩
  all_goals first | exact ⟨rfl, rfl, rfl, rfl, rfl⟩ | exact .inl rfl | exact .inr rfl

theorem raiseFault_course (s : State) (a : Fin Config.axisCount) (c : Cause) (b : Fin Config.axisCount) :
    SameCourse (s.axis b) ((s.raiseFault a c).1.axis b) := by
  rcases raiseFault_cases s a c with same | ⟨x, ts, course, _, written⟩
  · rw [same]
    exact .refl _
  · rw [written]
    exact sameCourse_setAxis course b

theorem raiseFault_events {s : State} {a : Fin Config.axisCount} {c : Cause} {t : Trigger} (found : t ∈ (s.raiseFault a c).2) :
    t = { kind := .axisEvent, index := a.val } := by
  rcases raiseFault_cases s a c with same | ⟨x, ts, _, none | one, written⟩
  · rw [same] at found
    exact absurd found List.not_mem_nil
  · rw [written, none] at found
    exact absurd found List.not_mem_nil
  · rw [written, one] at found
    exact List.mem_singleton.mp found

/-! ## The tests of one axis (R123) -/

/-- Tests of the axis a lead from s to t and find the triggers ts: they write the axis, but not its course, and the Notice Set, and
every trigger is an AXIS_EVENT. -/
structure AxisTested (a : Fin Config.axisCount) (s t : State) (ts : List Trigger) : Prop where
  frame : t = { s with axes := t.axes, notices := t.notices }
  others : ∀ b, b ≠ a → t.axis b = s.axis b
  course : ∀ b, SameCourse (s.axis b) (t.axis b)
  events : ∀ e ∈ ts, e.kind = .axisEvent

namespace AxisTested

variable {a : Fin Config.axisCount} {s t u : State} {ts us : List Trigger}

theorem refl (a : Fin Config.axisCount) (s : State) : AxisTested a s s [] := ⟨rfl, fun _ _ => rfl, fun _ => .refl _, nofun⟩

theorem trans (first : AxisTested a s t ts) (second : AxisTested a t u us) : AxisTested a s u (ts ++ us) where
  frame := by rw [second.frame, first.frame]
  others b other := (second.others b other).trans (first.others b other)
  course b := (first.course b).trans (second.course b)
  events e found := (List.mem_append.mp found).elim (first.events e) (second.events e)

theorem setAxis {x : Axis} (course : SameCourse (s.axis a) x) : AxisTested a s (s.setAxis a x) [] :=
  ⟨rfl, fun b other => State.axis_setAxis_of_ne s a b x other, sameCourse_setAxis course, nofun⟩

theorem raiseFault (s : State) (a : Fin Config.axisCount) (c : Cause) :
    AxisTested a s (s.raiseFault a c).1 (s.raiseFault a c).2 :=
  ⟨raiseFault_frame s a c, fun b other => raiseFault_other s a b c other, raiseFault_course s a c,
    fun _ found => congrArg Trigger.kind (raiseFault_events found)⟩

end AxisTested

theorem emitLimit_tested (s : State) (r : Setpoint) : AxisTested r.axis s (emitLimit s r).1 (emitLimit s r).2 := by
  unfold emitLimit
  split
  · exact .raiseFault s r.axis .hardLimit
  · exact .refl r.axis s

theorem emitMiss_tested (s : State) (r : Setpoint) : AxisTested r.axis s (emitMiss s r).1 (emitMiss s r).2 := by
  unfold emitMiss
  dsimp only
  split
  · have counted := AxisTested.setAxis (s := s) (a := r.axis)
      (x := { s.axis r.axis with
        drive := { (s.axis r.axis).drive with missCount := min 15 ((s.axis r.axis).drive.missCount + 1) } })
      ⟨rfl, rfl, rfl, rfl, rfl⟩
    split
    · exact counted.trans (.raiseFault _ r.axis .feedbackLost)
    · exact counted
  · exact .refl r.axis s

theorem emitRecord_tested (s : State) (cycle : BitVec 8) (r : Setpoint) : AxisTested r.axis s (emitRecord s cycle r) [] :=
  .setAxis ⟨rfl, rfl, rfl, rfl, rfl⟩

/-! ## The axes of the frame, one after another (R122, R123) -/

/-- The emission of these records leads from s to t: it writes their axes, but no axis' course, and the Notice Set, and AXIS_EVENT
triggers join the evaluation. -/
structure Emitted (records : List Setpoint) (s t : State) : Prop where
  frame : t = { s with axes := t.axes, eval := t.eval, notices := t.notices }
  others : ∀ a, (∀ r ∈ records, r.axis ≠ a) → t.axis a = s.axis a
  course : ∀ a, SameCourse (s.axis a) (t.axis a)
  events : ∃ ts, (∀ e ∈ ts, e.kind = .axisEvent) ∧ t.eval = s.eval.map fun ev => { ev with triggers := ev.triggers ++ ts }

theorem emitAxis_emitted (cycle : BitVec 8) (s : State) (r : Setpoint) : Emitted [r] s (emitAxis cycle s r) := by
  have tested := (emitLimit_tested s r).trans
    ((emitMiss_tested (emitLimit s r).1 r).trans (emitRecord_tested (emitMiss (emitLimit s r).1 r).1 cycle r))
  rw [List.append_nil] at tested
  have eval : (emitRecord (emitMiss (emitLimit s r).1 r).1 cycle r).eval = s.eval := by rw [tested.frame]
  refine ⟨?_, fun a other => ?_, tested.course, _, tested.events, ?_⟩
  · unfold emitAxis State.addTriggers
    dsimp only
    rw [tested.frame]
  · exact tested.others a (other r List.mem_cons_self).symm
  · exact congrArg (Option.map _) eval

theorem foldl_emitAxis_emitted (cycle : BitVec 8) (records : List Setpoint) (s : State) :
    Emitted records s (records.foldl (emitAxis cycle) s) := by
  induction records generalizing s with
  | nil =>
      refine ⟨rfl, fun _ _ => rfl, fun _ => .refl _, [], nofun, ?_⟩
      simp
  | cons r rest ih =>
      obtain ⟨frame, others, course, ts, events, eval⟩ := emitAxis_emitted cycle s r
      obtain ⟨frame', others', course', ts', events', eval'⟩ := ih (emitAxis cycle s r)
      refine ⟨?_, fun a other => ?_, fun a => (course a).trans (course' a), ts ++ ts', fun e found => ?_, ?_⟩
      · rw [List.foldl_cons, frame', frame]
      · rw [List.forall_mem_cons] at other
        exact (others' a other.2).trans (others a (List.forall_mem_singleton.mpr other.1))
      · exact (List.mem_append.mp found).elim (events e) (events' e)
      · rw [List.foldl_cons, eval', eval, Option.map_map]
        simp [Function.comp_def]

/-! ## The emission taken whole (R11, R122) -/

/-- No live axis is left from number n on where the axes from n on are OFF (R122). -/
theorem nextLive_eq_none {s : State} {n : Nat} (off : ∀ a : Fin Config.axisCount, n ≤ a.val → (s.axis a).state = .off) :
    s.nextLive n = none := by
  simpa [State.nextLive, allAxes] using off

theorem exec_setpointEmission_of_due {s : State} {ev : Evaluation} {n : Nat} (inFlight : s.eval = some ev)
    (stage : ev.stage = .shaping n) (off : ∀ a : Fin Config.axisCount, n ≤ a.val → (s.axis a).state = .off) :
    exec .setpointEmission s = .next (emitSetpoint s ev).settle := by
  simp only [exec, execSetpointEmission, inFlight, stage, nextLive_eq_none off, done]

/-- Settles O28: the fold of the tests over the records, the handover, and the test for completion. -/
theorem setpointIsEmitted : Obligations.SetpointIsEmitted := by
  intro s ev n inFlight stage off cycle tested frame
  obtain ⟨testedFrame, others, course, ts, events, eval⟩ : Emitted ev.records { s with cycle := cycle } tested :=
    foldl_emitAxis_emitted cycle ev.records { s with cycle := cycle }
  have joined : tested.eval = some { ev with triggers := ev.triggers ++ ts } := by rw [eval]; simp [inFlight]
  have handed : (tested.handOver frame).ring = { s.ring with
      setpoints := (if s.ring.setpoints.length < 4 then s.ring.setpoints else s.ring.setpoints.tail) ++ [frame] } := by
    rw [State.handOver_ring, testedFrame]
    rfl
  let served := (tested.handOver frame).setStage .servicing
  have servedEval : served.eval = some { ev with stage := .servicing, triggers := ev.triggers ++ ts } := by
    simp [served, joined]
  have whole : emitSetpoint s ev = { served with eval := served.completeIfServiced.eval } := completeIfServiced_frame served
  refine ⟨emitSetpoint s ev, exec_setpointEmission_of_due inFlight stage off, ?_⟩
  rw [whole]
  refine ⟨?_, handed, rfl, rfl, ⟨ts, joined, events, completeIfServiced_eval servedEval rfl⟩, others, fun a => ?_, ?_⟩
  · show tested.cycle = cycle
    rw [testedFrame]
  · obtain ⟨position, velocity, offset, travel, target⟩ := course a
    exact ⟨position, velocity, offset, travel, target⟩
  · simp only [served, State.setStage, State.handOver]
    rw [testedFrame]

end Sys2Proof.Machine

end

section
/-! The laws of the clock, of the stores, of the Cue Engine and of the completion of evaluations, under each operation and each
command (R1, R2, R6, R11, R15, R16, R18, R20, R145, R147, R151). -/

namespace Sys2Proof.Machine

/-! ## What the laws read -/

theorem storesSound_congr {s t : State} (banks : t.store.banks = s.store.banks) (list : t.cues.list = s.cues.list)
    (sound : StoresSound s) : StoresSound t := by
  unfold StoresSound State.bank at *
  rwa [banks, list]

theorem cuesSound_congr {s t : State} (cues : t.cues = s.cues) (sound : CuesSound s) : CuesSound t := by
  unfold CuesSound State.channel at *
  rwa [cues]

theorem completesAtOnce_congr {s t : State} (eval : t.eval = s.eval) (completes : CompletesAtOnce s) : CompletesAtOnce t := by
  unfold CompletesAtOnce at *
  rwa [eval]

/-- An evaluation in a stage before its servicing keeps the law of completion, which speaks of none. -/
theorem completesAtOnce_of_stage {s : State} {ev : Evaluation} (eval : s.eval = some ev) (stage : ev.stage ≠ .servicing) :
    CompletesAtOnce s := by
  intro e inFlight servicing
  rw [eval] at inFlight
  obtain rfl := Option.some.inj inFlight
  exact absurd servicing stage

/-- The step from s to t keeps each of the four laws, whether or not the others hold. -/
structure LawsKept (s t : State) : Prop where
  clock : ClockSound s.clock → ClockSound t.clock
  stores : StoresSound s → StoresSound t
  cues : CuesSound s → CuesSound t
  completes : CompletesAtOnce s → CompletesAtOnce t

/-- Nothing that the four laws read differs between s and t. -/
structure SameCore (s t : State) : Prop where
  clock : t.clock = s.clock
  banks : t.store.banks = s.store.banks
  cues : t.cues = s.cues
  eval : t.eval = s.eval

theorem SameCore.refl (s : State) : SameCore s s := ⟨rfl, rfl, rfl, rfl⟩

/-- A change of axes and notices alone. -/
theorem SameCore.of_axes {s t : State} {axes : Vector Axis Config.axisCount} {notices : List Notice}
    (frame : t = { s with axes := axes, notices := notices }) : SameCore s t := by
  rw [frame]
  exact ⟨rfl, rfl, rfl, rfl⟩

namespace LawsKept

variable {s t u : State}

theorem refl (s : State) : LawsKept s s := ⟨id, id, id, id⟩

theorem trans (first : LawsKept s t) (second : LawsKept t u) : LawsKept s u :=
  ⟨second.clock ∘ first.clock, second.stores ∘ first.stores, second.cues ∘ first.cues, second.completes ∘ first.completes⟩

/-- A step that leaves the clock, the banks and the Cue Engine as they stand. -/
theorem of_same (clock : t.clock = s.clock) (banks : t.store.banks = s.store.banks) (cues : t.cues = s.cues)
    (completes : CompletesAtOnce s → CompletesAtOnce t) : LawsKept s t :=
  ⟨fun sound => clock ▸ sound, storesSound_congr banks (congrArg Cues.list cues), cuesSound_congr cues, completes⟩

theorem of_core (same : SameCore s t) : LawsKept s t :=
  .of_same same.clock same.banks same.cues (completesAtOnce_congr same.eval)

/-- A step that writes the clock alone, of what the laws read. -/
theorem of_clock {c : Clock} (sound : ClockSound s.clock → ClockSound c) : LawsKept s { s with clock := c } :=
  ⟨sound, id, id, id⟩

/-- A servicing keeps the laws. -/
theorem of_cueStep (step : CueStep s t) : LawsKept s t where
  clock := step.clock
  stores := storesSound_congr (by rw [step.frame]) step.list
  cues sound := ⟨step.channels sound.1, by rw [step.held]; exact sound.2⟩
  completes := completesAtOnce_congr (by rw [step.frame])

end LawsKept

/-! ## The end of a step and the execution of a request -/

theorem settle_core (s : State) : SameCore s s.settle := ⟨by simp, by simp, by simp, by simp⟩

theorem answer_core (s : State) (r : Request) (k : ReplyCode) (content : List Byte) : SameCore s (s.answer r k content) :=
  ⟨rfl, rfl, rfl, rfl⟩

theorem done_kept {s t u : State} (outcome : done u = .next t) (kept : LawsKept s u) : LawsKept s t := by
  obtain rfl := Host.Outcome.next.inj outcome
  exact kept.trans (.of_core (settle_core u))

theorem notDue_kept {s t : State} (outcome : notDue s = .next t) : LawsKept s t := by
  obtain rfl := Host.Outcome.next.inj outcome
  exact .refl s

/-- An execution keeps the laws where its rule does. -/
theorem execute_kept {mine : Request → Bool} {waits : Bool} {run : Request → State → Answer} {s t : State}
    (kept : ∀ r, LawsKept s (run r s).state) (outcome : execute mine waits run s = .next t) : LawsKept s t := by
  unfold execute at outcome
  split at outcome
  · exact notDue_kept outcome
  · next r _ _ =>
      split at outcome
      · exact done_kept outcome ((kept r).trans (.of_core (answer_core _ r _ _)))
      · exact notDue_kept outcome

/-! ## The laws after power-on reset -/

theorem clockSound_reset : ClockSound Clock.reset := by
  refine ⟨?_, ?_, ?_, ?_, ?_, ?_, nofun, ?_, ?_, ?_, ?_, ?_⟩ <;> decide

theorem bank_reset (b : Fin 2) : State.reset.bank b = Bank.reset := by
  simp [State.bank, State.reset, Store.reset, State.get_eq]

theorem axis_reset (a : Fin Config.axisCount) : State.reset.axis a = Axis.reset := by
  simp [State.axis, State.reset, State.get_eq]

theorem channel_reset (c : Fin Config.channelCount) : State.reset.channel c = Channel.reset := by
  simp [State.channel, State.reset, Cues.reset, State.get_eq]

theorem storesSound_reset : StoresSound State.reset :=
  ⟨fun b => by rw [bank_reset]; exact ⟨rfl, nofun⟩, rfl, nofun⟩

theorem cuesSound_reset : CuesSound State.reset :=
  ⟨fun c => by rw [channel_reset]; exact channelSound_reset, List.nodup_nil, nofun⟩

theorem completesAtOnce_of_idle {s : State} (idle : s.eval = none) : CompletesAtOnce s := by
  intro ev inFlight
  rw [idle] at inFlight
  cases inFlight

theorem powerOnState_kept (s : State) : LawsKept s (powerOnState s) :=
  ⟨fun _ => clockSound_reset, fun _ => storesSound_reset, fun _ => cuesSound_reset, fun _ => completesAtOnce_of_idle rfl⟩

/-! ## Syncs and cadence -/

/-- A rate of 0 and the first place of the pattern are in range (R2, R6). -/
theorem mag_zero_le_rateLimit : mag 0 ≤ rateLimit := by decide
theorem firstPattern_range : 1 ≤ (1 : Nat) ∧ (1 : Nat) ≤ 16 := by decide

theorem ClockSound.applySync {s : State} (sound : ClockSound s.clock) : ClockSound (applySync s).clock := by
  obtain ⟨epoch, prev, rate, target, slew, pattern, pending, rest⟩ := sound
  cases pendingSet : s.clock.pendingSet with
  | some e =>
      rw [applySync_of_pendingSet pendingSet]
      exact ⟨pending e pendingSet, prev, rate, target, slew, firstPattern_range, nofun, rest⟩
  | none =>
      have stopped := mag_zero_le_rateLimit
      rw [applySync_of_no_pendingSet pendingSet]
      rcases advanceEpoch_cases s.clock with above | below | ⟨lo, hi⟩
      · rw [advanceEpoch_above above]
        exact ⟨⟨epochMin_le_epochMax, Int.le_refl _⟩, prev, stopped, stopped, slew, nextPattern_range _, pending, rest⟩
      · rw [advanceEpoch_below below]
        exact ⟨⟨Int.le_refl _, epochMin_le_epochMax⟩, prev, stopped, stopped, slew, nextPattern_range _, pending, rest⟩
      · rw [advanceEpoch_within lo hi]
        have stepped := rateStep_between (Int.le_trans Int.one_nonneg slew.1) rate target
        exact ⟨⟨lo, hi⟩, prev, stepped, target, slew, nextPattern_range _, pending, rest⟩

/-- The epoch of the issue is in range, and so is Eprev after it (R10). -/
theorem ClockSound.issue {c : Clock} (sound : ClockSound c) (number : BitVec 32) :
    ClockSound { c with evalCount := number, setSinceIssue := false, prevEpoch := c.epoch } := by
  obtain ⟨epoch, _, rest⟩ := sound
  exact ⟨epoch, epoch, rest⟩

theorem takeSync_kept (s : State) : LawsKept s (takeSync s) := by
  cases inFlight : s.eval with
  | some ev =>
      rw [takeSync_of_busy inFlight]
      exact ⟨ClockSound.applySync, storesSound_congr (by simp) (by simp), cuesSound_congr (by simp),
        completesAtOnce_congr (by simp)⟩
  | none =>
      rw [takeSync_of_idle inFlight]
      have banks : (issueEvaluation (applySync s)).store.banks = s.store.banks := by
        rw [issueEvaluation_store, applySync_store]
        split <;> rfl
      exact ⟨fun sound => sound.applySync.issue _, storesSound_congr banks (by simp), cuesSound_congr (by simp),
        fun _ => completesAtOnce_of_stage (issueEvaluation_eval _) nofun⟩

theorem cadenceStep_kept (s : State) : LawsKept s (cadenceStep s) := by
  rw [cadenceStep_eq]
  refine ⟨fun ⟨epoch, prev, rate, target, slew, pattern, pending, watch, timeout, period, _, _⟩ => ?_, id, id, id⟩
  exact ⟨epoch, prev, rate, target, slew, pattern, pending, watch, timeout, period, by simp, by simp⟩

theorem loseCadence_kept (s : State) : LawsKept s (loseCadence s) := by
  refine ⟨fun ⟨epoch, prev, rate, _, slew, pattern, pending, watch, timeout, period, _, _⟩ => ?_, id, id, id⟩
  exact ⟨epoch, prev, rate, mag_zero_le_rateLimit, slew, pattern, pending, watch, timeout, period, by simp [loseCadence, State.raise],
    by simp [loseCadence, State.raise]⟩

/-- The generator schedules its next sync, in LOCAL (R16). -/
theorem reschedule_kept {s : State} (paced : s.clock.cadence = .localPaced) :
    LawsKept s { s with clock := { s.clock with localGenerator := some s.clock.localPeriod } } := by
  refine .of_clock fun ⟨epoch, prev, rate, target, slew, pattern, pending, watch, timeout, period, timer, _⟩ => ?_
  exact ⟨epoch, prev, rate, target, slew, pattern, pending, watch, timeout, period, timer, by simp [paced]⟩

theorem execCadenceLoss_kept {s t : State} (outcome : execCadenceLoss s = .next t) : LawsKept s t := by
  unfold execCadenceLoss at outcome
  split at outcome
  · exact done_kept outcome (loseCadence_kept s)
  all_goals exact notDue_kept outcome

theorem execLocalSync_kept {s t : State} (outcome : execLocalSync s = .next t) : LawsKept s t := by
  unfold execLocalSync at outcome
  split at outcome
  · next paced => exact done_kept outcome ((reschedule_kept paced).trans (takeSync_kept _))
  all_goals exact notDue_kept outcome

/-! ## The requests of the clock -/

theorem runSetEpoch_kept (r : Request) (s : State) : LawsKept s (runSetEpoch r s).state := by
  unfold runSetEpoch
  dsimp only
  split
  · next accepted =>
      refine .of_clock fun ⟨epoch, prev, rate, target, slew, pattern, _, rest⟩ => ?_
      refine ⟨epoch, prev, rate, target, slew, pattern, fun e pending => ?_, rest⟩
      obtain rfl := Option.some.inj pending
      exact within_iff.mp accepted.2
  · exact .refl s

theorem runSetRate_kept (r : Request) (s : State) : LawsKept s (runSetRate r s).state := by
  unfold runSetRate
  dsimp only
  split
  · next accepted => exact .of_clock fun sound => sound.writeRate accepted.2
  · exact .refl s

theorem runSetEpochWatch_kept (r : Request) (s : State) : LawsKept s (runSetEpochWatch r s).state := by
  unfold runSetEpochWatch
  dsimp only
  split
  · next accepted => exact .of_clock fun sound => sound.writeWatch _ accepted.2.2
  · exact .refl s

theorem runSetCadence_kept (r : Request) (s : State) : LawsKept s (runSetCadence r s).state := by
  unfold runSetCadence
  dsimp only
  split
  · next accepted =>
      obtain ⟨_, timeout, period⟩ := accepted
      refine .of_clock fun ⟨epoch, prev, rate, target, slew, pattern, pending, watch, _, _, rest⟩ => ?_
      exact ⟨epoch, prev, rate, target, slew, pattern, pending, watch, (periodAccepted_iff _).mp timeout,
        (periodAccepted_iff _).mp period, rest⟩
  · exact .refl s

/-! ## The requests of the stores -/

/-- A bank whose slots are canonical and within their addresses, written, keeps the law of the stores. -/
theorem storesSound_setBank {s : State} {b : Fin 2} {x : Bank} (sound : StoresSound s)
    (written : Slots.wf Segment.zero x.slots = true ∧ ∀ e ∈ x.slots, e.1 < Config.slotCount) : StoresSound (s.setBank b x) := by
  refine ⟨fun c => ?_, sound.2⟩
  by_cases same : c = b
  · rw [same, State.bank_setBank_same]
    exact written
  · rw [State.bank_setBank_of_ne s b c x same]
    exact sound.1 c

theorem chunks_length (k n : Nat) (bs : List Byte) : (chunks k n bs).length = n := by
  induction n generalizing bs with
  | zero => rfl
  | succ n ih => rw [chunks, List.length_cons, ih]

theorem runLoadSegments_kept (r : Request) (s : State) : LawsKept s (runLoadSegments r s).state := by
  unfold runLoadSegments
  dsimp only
  split
  · exact .refl s
  next bank _ =>
  split
  · exact .refl s
  next inRange =>
  split
  · exact .refl s
  · refine ⟨id, fun sound => storesSound_setBank sound ⟨?_, ?_⟩, id, id⟩
    · exact Slots.wf_writeAll Segment.zero (sound.1 bank).1 _ _
    · refine Slots.address_lt_writeAll Segment.zero (sound.1 bank).2 _ _ ?_
      rw [List.length_map, chunks_length]
      omega

theorem runWriteBody_kept (r : Request) (s : State) : LawsKept s (runWriteBody r s).state := by
  unfold runWriteBody
  dsimp only
  split
  · next bank body _ _ =>
      split
      · exact .refl s
      split
      · exact .refl s
      · exact ⟨id, fun sound => storesSound_setBank sound (sound.1 bank), id, id⟩
  · exact .refl s

theorem decodeCues_length {rows : List (List Byte)} {entries : List CueAction} (decoded : decodeCues rows = some entries) :
    entries.length = rows.length := by
  induction rows generalizing entries with
  | nil => obtain rfl := Option.some.inj decoded; rfl
  | cons row rows ih =>
      rw [decodeCues] at decoded
      split at decoded
      · next as _ rest =>
          obtain rfl := Option.some.inj decoded
          rw [List.length_cons, List.length_cons, ih rest]
      · cases decoded

theorem runWriteCues_kept (r : Request) (s : State) : LawsKept s (runWriteCues r s).state := by
  unfold runWriteCues
  dsimp only
  split
  · exact .refl s
  next inRange =>
  split
  · exact .refl s
  next entries decoded =>
  refine ⟨id, fun ⟨banks, canonical, addresses⟩ => ⟨banks, ?_, ?_⟩, id, id⟩
  · exact Slots.wf_writeAll CueAction.none canonical _ _
  · refine Slots.address_lt_writeAll CueAction.none addresses _ _ ?_
    rw [decodeCues_length decoded, chunks_length]
    omega

/-! ## The requests of the channels -/

/-- A channel written soundly keeps the laws. -/
theorem setChannel_kept {s : State} {c : Fin Config.channelCount} {x : Channel}
    (written : ChannelSound (s.channel c) → ChannelSound x) : LawsKept s (s.setChannel c x) :=
  .of_cueStep (.setChannel written)

theorem onChannel_kept {run : Request → State → Fin Config.channelCount → Answer} {r : Request} {s : State}
    (kept : ∀ c, LawsKept s (run r s c).state) : LawsKept s (onChannel run r s).state := by
  unfold onChannel
  split
  · exact .refl s
  split
  · exact .refl s
  · exact kept _

theorem writeChannel_kept (r : Request) (s : State) (c : Fin Config.channelCount) : LawsKept s (writeChannel r s c).state := by
  unfold writeChannel
  split
  · exact .refl s
  next x decoded =>
  split
  · exact .refl s
  · exact setChannel_kept fun _ => decodeChannel_sound decoded

theorem armChannel_kept (r : Request) (s : State) (c : Fin Config.channelCount) : LawsKept s (armChannel r s c).state := by
  unfold armChannel
  split
  · exact .refl s
  split
  · next isDefined => exact setChannel_kept fun sound => Channel.arm_sound sound isDefined
  · exact .refl s

theorem disarmChannel_kept (r : Request) (s : State) (c : Fin Config.channelCount) :
    LawsKept s (disarmChannel r s c).state := by
  unfold disarmChannel
  split
  · exact .refl s
  · exact setChannel_kept Channel.disarm_sound

/-! ## The soft reset -/

theorem softResetState_kept (s : State) (r : Request) : LawsKept s (softResetState s r) where
  clock := by
    intro ⟨epoch, _, _, _, slew, _, _, watch, timeout, period, _, _⟩
    refine ⟨epoch, epoch, ?_, ?_, slew, ?_, nofun, watch, timeout, period, ?_, ?_⟩
    all_goals simp only [softResetState, Clock.softReset]
    all_goals decide
  stores := storesSound_congr rfl rfl
  cues sound := by
    refine ⟨fun c => ?_, List.nodup_nil, nofun⟩
    have mapped : (softResetState s r).channel c = (s.channel c).softReset := by
      simp [softResetState, State.channel, State.get_eq]
    rw [mapped]
    exact Channel.softReset_sound (sound.1 c)
  completes := completesAtOnce_congr rfl

theorem runSoftReset_kept (r : Request) (s : State) : LawsKept s (runSoftReset r s).state := by
  unfold runSoftReset
  split
  · exact .refl s
  · exact softResetState_kept s r

end Sys2Proof.Machine

end

section
/-! Every command keeps the laws of the clock, of the stores, of the Cue Engine and of the completion of evaluations, and they hold
after power-on reset. -/

namespace Sys2Proof.Machine

/-! ## FEEDBACK (R126, R151) -/

/-- An occurrence that a FEEDBACK record of the axis can give (R151). -/
def OccurrenceOf (a : Fin Config.axisCount) (t : Trigger) : Prop :=
  (t.kind = .switchChange ∨ t.kind = .axisEvent) ∧ t.index = a.val

/-- A part of the handling of a record of the axis a, with the occurrences it gives: it writes the axes and the Notice Set. -/
structure RecordStep (a : Fin Config.axisCount) (s : State) (p : State × List Trigger) : Prop where
  frame : p.1 = { s with axes := p.1.axes, notices := p.1.notices }
  occurrences : ∀ t ∈ p.2, OccurrenceOf a t

namespace RecordStep

variable {a : Fin Config.axisCount} {s : State}

theorem refl (a : Fin Config.axisCount) (s : State) : RecordStep a s (s, []) := ⟨rfl, nofun⟩

theorem trans {p q : State × List Trigger} (first : RecordStep a s p) (second : RecordStep a p.1 q) :
    RecordStep a s (q.1, p.2 ++ q.2) where
  frame := by
    show q.1 = _
    rw [second.frame, first.frame]
  occurrences t found := (List.mem_append.mp found).elim (first.occurrences t) (second.occurrences t)

/-- What writes axes and notices before a part of the handling belongs to it. -/
theorem after {t : State} {p : State × List Trigger} {axes : Vector Axis Config.axisCount} {notices : List Notice}
    (written : t = { s with axes := axes, notices := notices }) (step : RecordStep a t p) : RecordStep a s p where
  frame := by rw [step.frame, written]
  occurrences := step.occurrences

theorem raiseFault (s : State) (a : Fin Config.axisCount) (c : Cause) : RecordStep a s (s.raiseFault a c) :=
  ⟨raiseFault_frame s a c, fun t found => by rw [raiseFault_events found]; exact ⟨.inr rfl, rfl⟩⟩

/-- A test of a record: the cause is taken where it holds. -/
theorem raiseFaultWhere (s : State) (a : Fin Config.axisCount) (c : Cause) (test : Prop) [Decidable test] :
    RecordStep a s (if test then s.raiseFault a c else (s, [])) := by
  split
  · exact .raiseFault s a c
  · exact .refl a s

end RecordStep

/-- An axis written, and a notice raised under a test. -/
theorem setAxis_raiseWhere (s : State) (a : Fin Config.axisCount) (x : Axis) (test : Bool) (k : NoticeKind) (i : Nat) (d : Detail) :
    (if test then (s.setAxis a x).raise k i d else s.setAxis a x) =
      { s with
        axes := (s.setAxis a x).axes, notices := if test then raiseInto k i d s.notices else s.notices } := by
  cases test <;> rfl

theorem refreshSwitches_step (s : State) (a : Fin Config.axisCount) (r : FeedbackRecord) :
    RecordStep a s (refreshSwitches s a r) := by
  have change : RecordStep a s
      (s, if liveChange (s.axis a).drive.live (r.switches.masked (s.axis a).travel.switchMask) then
        [{ kind := .switchChange, index := a.val }] else []) := by
    refine ⟨rfl, fun t found => ?_⟩
    obtain ⟨_, rfl⟩ : _ ∧ t = { kind := .switchChange, index := a.val } := by simpa using found
    exact ⟨.inl rfl, rfl⟩
  unfold refreshSwitches
  dsimp only
  exact change.trans (.after (setAxis_raiseWhere s a _ _ _ _ _) (.raiseFaultWhere _ a .homeLimit _))

theorem matchRecord_step (s : State) (a : Fin Config.axisCount) (cycle : BitVec 8) (r : FeedbackRecord) :
    RecordStep a s (matchRecord s a cycle r) := by
  unfold matchRecord
  dsimp only
  split
  · exact .refl a s
  · exact .after rfl (.raiseFaultWhere _ a .following _)

theorem faultRecord_step (s : State) (a : Fin Config.axisCount) (r : FeedbackRecord) : RecordStep a s (faultRecord s a r) :=
  .raiseFaultWhere s a .driveFault _

theorem limitRecord_step (s : State) (a : Fin Config.axisCount) : RecordStep a s (limitRecord s a) :=
  .raiseFaultWhere s a .hardLimit _

theorem handleRecord_step (s : State) (a : Fin Config.axisCount) (cycle : BitVec 8) (r : FeedbackRecord) :
    RecordStep a s (handleRecord s a cycle r) := by
  have two : RecordStep a s (refreshSwitches (s.setAxis a (storeActual (s.axis a) r)) a r) :=
    .after rfl (refreshSwitches_step _ a r)
  unfold handleRecord
  dsimp only
  split
  · exact two
  · exact ((two.trans (matchRecord_step _ a cycle r)).trans (faultRecord_step _ a r)).trans (limitRecord_step _ a)

/-- An occurrence of a record is serviced, held or absorbed, and the held set keeps its law (R151). -/
theorem handOccurrence_kept {s : State} {a : Fin Config.axisCount} {t : Trigger} (occurrence : OccurrenceOf a t) :
    LawsKept s (handOccurrence s t) := by
  by_cases waits : s.eval ≠ none ∨ s.cues.held ≠ []
  · rw [handOccurrence_of_waiting t waits]
    split
    · exact .refl s
    · next absent =>
        refine ⟨id, id, fun ⟨channels, distinct, kinds⟩ => ⟨channels, ?_, ?_⟩, id⟩
        · exact List.nodup_append.mpr ⟨distinct, List.nodup_cons.mpr ⟨List.not_mem_nil, List.nodup_nil⟩, fun x held y new => by
            rintro rfl
            exact absent (List.mem_singleton.mp new ▸ held)⟩
        · intro x held
          rcases List.mem_append.mp held with old | new
          · exact kinds x old
          · rw [List.mem_singleton.mp new]
            exact ⟨occurrence.1, by rw [occurrence.2]; exact a.isLt⟩
  · obtain ⟨idle, held⟩ := not_or.mp waits
    rw [handOccurrence_of_quiet t (Classical.not_not.mp idle) (Classical.not_not.mp held)]
    exact .of_cueStep (service_cueStep s t)

theorem takeRecord_kept (node : Nat) (cycle : BitVec 8) (s : State) (r : FeedbackRecord) :
    LawsKept s (takeRecord node cycle s r) := by
  unfold takeRecord
  split
  · exact .refl s
  · next a _ =>
      have handled := handleRecord_step s a cycle r
      exact List.foldlRecOn _ _ (.of_core (.of_axes handled.frame)) fun u kept t found =>
        kept.trans (handOccurrence_kept (handled.occurrences t found))

theorem takeFeedback_kept (s : State) (node : Nat) (payload : List Byte) : LawsKept s (takeFeedback s node payload) := by
  unfold takeFeedback
  split
  · exact .refl s
  · exact List.foldlRecOn _ _ (.refl s) fun u kept r _ => kept.trans (takeRecord_kept node _ u r)

/-! ## Frames at the ports (R158 to R164) -/

theorem discard_core (s : State) (port : Port) (reason : LinkReason) : SameCore s (s.discard port reason) := by
  cases port <;> exact ⟨rfl, rfl, rfl, rfl⟩

theorem placeDownstream_core (s : State) (f : Frame) : SameCore s (s.placeDownstream f) := by
  unfold State.placeDownstream
  split <;> exact ⟨rfl, rfl, rfl, rfl⟩

theorem placeUpstream_core (s : State) (f : Frame) : SameCore s (s.placeUpstream f) := by
  unfold State.placeUpstream
  split <;> exact ⟨rfl, rfl, rfl, rfl⟩

theorem admitRequest_core (s : State) (payload : List Byte) : SameCore s (admitRequest s payload) := by
  unfold admitRequest
  repeat' split
  all_goals exact ⟨rfl, rfl, rfl, rfl⟩

/-- A frame that fails its check or its length is discarded (R158). -/
theorem receiveCheck_core {s u : State} {port : Port} {f : Frame} (failed : receiveCheck s port f = some u) : SameCore s u := by
  unfold receiveCheck at failed
  split at failed
  · cases failed
  all_goals
    obtain rfl := Option.some.inj failed
    cases port <;> exact ⟨rfl, rfl, rfl, rfl⟩

theorem dispatchU_kept (s : State) (f : Frame) : LawsKept s (dispatchU s f) := by
  unfold dispatchU
  split
  · exact .of_core (discard_core s _ _)
  split
  · exact .of_core (placeDownstream_core s f)
  split
  · exact (cadenceStep_kept s).trans (takeSync_kept _)
  split
  · exact .of_core (admitRequest_core s _)
  · exact .of_core (discard_core s _ _)

theorem dispatchD_kept (s : State) (f : Frame) : LawsKept s (dispatchD s f) := by
  unfold dispatchD
  split
  · exact .of_core (discard_core s _ _)
  split
  · exact (takeFeedback_kept s _ _).trans (.of_core (placeUpstream_core _ f))
  · exact .of_core (placeUpstream_core s f)

theorem execUFrameReceived_kept {f : Frame} {s t : State} (outcome : execUFrameReceived f s = .next t) : LawsKept s t := by
  unfold execUFrameReceived at outcome
  split at outcome
  · next failed => exact done_kept outcome (.of_core (receiveCheck_core failed))
  · exact done_kept outcome (dispatchU_kept s f)

theorem execDFrameReceived_kept {f : Frame} {s t : State} (outcome : execDFrameReceived f s = .next t) : LawsKept s t := by
  unfold execDFrameReceived at outcome
  split at outcome
  · next failed => exact done_kept outcome (.of_core (receiveCheck_core failed))
  · exact done_kept outcome (dispatchD_kept s f)

theorem execDTransmitEnd_kept {s t : State} (outcome : execDTransmitEnd s = .next t) : LawsKept s t := by
  unfold execDTransmitEnd at outcome
  split at outcome
  · exact done_kept outcome (.of_core ⟨rfl, rfl, rfl, rfl⟩)
  · exact notDue_kept outcome

theorem execUTransmitEnd_kept {s t : State} (outcome : execUTransmitEnd s = .next t) : LawsKept s t := by
  unfold execUTransmitEnd at outcome
  split at outcome
  · exact done_kept outcome (.of_core ⟨rfl, rfl, rfl, rfl⟩)
  · exact notDue_kept outcome

/-! ## The stages of an evaluation (R39, R62, R80, R122, R150) -/

theorem seamTest_frame (s : State) (b : Bank) (d : Descriptor) (body : Fin Config.bodyCount) (i j : Nat) :
    seamTest s b d body i j = { s with notices := (seamTest s b d body i j).notices } := by
  unfold seamTest
  dsimp only
  repeat' split
  all_goals rfl

theorem changeTests_frame (s : State) (b : Bank) (d : Descriptor) (body : Fin Config.bodyCount) (x : Body)
    (found : Option Nat) (swapped : Bool) :
    changeTests s b d body x found swapped =
      { s with
        eval := (changeTests s b d body x found swapped).eval, notices := (changeTests s b d body x found swapped).notices } := by
  unfold changeTests
  repeat' split
  all_goals first | rfl | rw [seamTest_frame]; rfl

theorem evaluateOneBody_frame (s : State) (ev : Evaluation) (body : Fin Config.bodyCount) :
    evaluateOneBody s ev body =
      { s with
        bodies := (evaluateOneBody s ev body).bodies, eval := (evaluateOneBody s ev body).eval,
        notices := (evaluateOneBody s ev body).notices } := by
  unfold evaluateOneBody
  dsimp only
  split
  · rw [changeTests_frame]; rfl
  · rfl

/-- A stage before the servicing keeps the law of completion. -/
theorem setStage_completes (s : State) {g : Stage} (stage : g ≠ .servicing) : CompletesAtOnce (s.setStage g) := by
  cases eval : s.eval with
  | none => exact completesAtOnce_of_idle (by simp [eval])
  | some ev => exact completesAtOnce_of_stage (ev := { ev with stage := g }) (by simp [eval]) stage

theorem Stage.afterBody_ne_servicing (body : Fin Config.bodyCount) : Stage.afterBody body ≠ .servicing := by
  unfold Stage.afterBody
  split <;> nofun

theorem Evaluation.afterMapping_stage (ev : Evaluation) (a : Fin Config.axisCount) (suppressed : Bool) :
    (ev.afterMapping a suppressed).stage ≠ .servicing := by
  unfold Evaluation.afterMapping
  dsimp only
  split <;> nofun

theorem endShaping_frame (s : State) (a : Fin Config.axisCount) (x : Axis) :
    (endShaping s a x).1 = { s with axes := (endShaping s a x).1.axes, notices := (endShaping s a x).1.notices } := by
  unfold endShaping
  repeat' split
  all_goals first | rfl | exact raiseFault_frame (s.setAxis a x) a .homeNotFound

theorem execBodyEvaluation_kept {s t : State} (outcome : execBodyEvaluation s = .next t) : LawsKept s t := by
  unfold execBodyEvaluation at outcome
  split at outcome
  · exact notDue_kept outcome
  next ev _ =>
  split at outcome
  · next body _ =>
      refine done_kept outcome (.of_same ?_ ?_ ?_ fun _ => setStage_completes _ (Stage.afterBody_ne_servicing body))
      all_goals
        unfold State.setStage
        rw [evaluateOneBody_frame]
  all_goals exact notDue_kept outcome

theorem execTargetMapping_kept {s t : State} (outcome : execTargetMapping s = .next t) : LawsKept s t := by
  unfold execTargetMapping at outcome
  split at outcome
  · exact notDue_kept outcome
  next ev _ =>
  split at outcome
  · next a _ =>
      exact done_kept outcome (.of_same rfl rfl rfl fun _ => completesAtOnce_of_stage rfl (ev.afterMapping_stage a _))
  all_goals exact notDue_kept outcome

theorem shapeOneAxis_kept (s : State) (ev : Evaluation) (a : Fin Config.axisCount) : LawsKept s (shapeOneAxis s ev a) := by
  have ended := endShaping_frame s a (shapedAxis ev (s.axis a))
  refine .of_same ?_ ?_ ?_ fun _ => completesAtOnce_of_stage rfl nofun
  all_goals
    unfold shapeOneAxis
    dsimp only
    rw [ended]

theorem execAxisShaping_kept {s t : State} (outcome : execAxisShaping s = .next t) : LawsKept s t := by
  unfold execAxisShaping at outcome
  split at outcome
  · exact notDue_kept outcome
  next ev _ =>
  split at outcome
  · split at outcome
    · exact done_kept outcome (shapeOneAxis_kept s ev _)
    · exact notDue_kept outcome
  all_goals exact notDue_kept outcome

theorem emitSetpoint_kept (s : State) (ev : Evaluation) : LawsKept s (emitSetpoint s ev) := by
  have tested := (foldl_emitAxis_emitted (s.cycle + 1) ev.records { s with cycle := s.cycle + 1 }).frame
  refine .of_same ?_ ?_ ?_ fun _ => completeIfServiced_completes _
  all_goals
    unfold emitSetpoint
    rw [completeIfServiced_frame]
    dsimp only
    rw [tested]
    rfl

theorem execSetpointEmission_kept {s t : State} (outcome : execSetpointEmission s = .next t) : LawsKept s t := by
  unfold execSetpointEmission at outcome
  split at outcome
  · exact notDue_kept outcome
  next ev _ =>
  split at outcome
  · split at outcome
    · exact done_kept outcome (emitSetpoint_kept s ev)
    · exact notDue_kept outcome
  all_goals exact notDue_kept outcome

/-- The test for completion keeps the laws, and needs none of them for that of completion. -/
theorem completeIfServiced_kept {s t : State} (clock : ClockSound s.clock → ClockSound t.clock)
    (stores : StoresSound s → StoresSound t) (cues : CuesSound s → CuesSound t) : LawsKept s t.completeIfServiced where
  clock sound := by rw [completeIfServiced_frame]; exact clock sound
  stores sound := storesSound_congr (s := t) (by rw [completeIfServiced_frame]) (by rw [completeIfServiced_frame]) (stores sound)
  cues sound := cuesSound_congr (s := t) (by rw [completeIfServiced_frame]) (cues sound)
  completes _ := completeIfServiced_completes t

theorem execOccurrenceService_kept {s t : State} (outcome : execOccurrenceService s = .next t) : LawsKept s t := by
  unfold execOccurrenceService at outcome
  split at outcome
  · next ev _ =>
      split at outcome
      · next trigger rest _ _ =>
          have served : LawsKept { s with eval := some { ev with triggers := rest } } _ := .of_cueStep (service_cueStep _ trigger)
          exact done_kept outcome (completeIfServiced_kept served.clock served.stores served.cues)
      · exact done_kept outcome (completeIfServiced_kept id id id)
      all_goals exact notDue_kept outcome
  · split at outcome
    · next trigger rest held =>
        have taken : LawsKept s { s with cues := { s.cues with held := rest } } := by
          refine ⟨id, id, fun ⟨channels, distinct, kinds⟩ => ⟨channels, ?_, fun t found => ?_⟩, id⟩
          · rw [held] at distinct
            exact distinct.of_cons
          · exact kinds t (held ▸ List.mem_cons_of_mem trigger found)
        exact done_kept outcome (taken.trans (.of_cueStep (service_cueStep _ trigger)))
    · exact notDue_kept outcome

/-! ## The requests that write nothing that the laws read -/

section quiet

variable (r : Request) (s : State)

theorem runUnknown_core : SameCore s (runUnknown r s).state := .refl s

theorem runReadStatus_core : SameCore s (runReadStatus r s).state := by
  unfold runReadStatus
  dsimp only
  repeat' split
  all_goals exact ⟨rfl, rfl, rfl, rfl⟩

theorem runSetSite_core : SameCore s (runSetSite r s).state := by
  unfold runSetSite
  dsimp only
  split <;> exact ⟨rfl, rfl, rfl, rfl⟩

theorem runReadAxis_core : SameCore s (runReadAxis r s).state := by
  unfold runReadAxis
  dsimp only
  repeat' split
  all_goals exact .refl s

theorem writeAxisItems_core (a : Fin Config.axisCount) (items : Items) : SameCore s (writeAxisItems s a items).state := by
  unfold writeAxisItems
  dsimp only
  repeat' split
  all_goals exact ⟨rfl, rfl, rfl, rfl⟩

theorem runWriteAxis_core : SameCore s (runWriteAxis r s).state := by
  unfold runWriteAxis
  dsimp only
  split
  · exact .refl s
  split
  · exact .refl s
  · exact writeAxisItems_core s _ _

theorem runReadSegments_core : SameCore s (runReadSegments r s).state := by
  unfold runReadSegments
  dsimp only
  repeat' split
  all_goals exact .refl s

theorem runReadBody_core : SameCore s (runReadBody r s).state := by
  unfold runReadBody
  dsimp only
  repeat' split
  all_goals exact .refl s

theorem scheduleSwap_core (swap : SwapState) : SameCore s (scheduleSwap s swap).state := by
  unfold scheduleSwap
  repeat' split
  all_goals exact ⟨rfl, rfl, rfl, rfl⟩

theorem runSwapBanks_core : SameCore s (runSwapBanks r s).state := by
  unfold runSwapBanks
  dsimp only
  split
  · exact scheduleSwap_core s _
  · split
    · exact scheduleSwap_core s _
    · exact .refl s
  · exact .refl s

theorem runCancelSwap_core : SameCore s (runCancelSwap r s).state := by
  unfold runCancelSwap
  repeat' split
  all_goals exact ⟨rfl, rfl, rfl, rfl⟩

theorem runEnterShow_core : SameCore s (runEnterShow r s).state := by
  unfold runEnterShow
  repeat' split
  all_goals exact ⟨rfl, rfl, rfl, rfl⟩

theorem runEnterSetup_core : SameCore s (runEnterSetup r s).state := by
  unfold runEnterSetup
  split <;> exact ⟨rfl, rfl, rfl, rfl⟩

theorem enableAxis_core (a : Fin Config.axisCount) : SameCore s (enableAxis s a).state := by
  unfold enableAxis
  dsimp only
  repeat' split
  all_goals exact ⟨rfl, rfl, rfl, rfl⟩

theorem disableAxis_core (a : Fin Config.axisCount) : SameCore s (disableAxis s a).state := by
  unfold disableAxis
  dsimp only
  repeat' split
  all_goals exact ⟨rfl, rfl, rfl, rfl⟩

theorem homeAxis_core (a : Fin Config.axisCount) : SameCore s (homeAxis s a).state := by
  unfold homeAxis
  dsimp only
  repeat' split
  all_goals exact ⟨rfl, rfl, rfl, rfl⟩

theorem clearFaultAxis_core (a : Fin Config.axisCount) : SameCore s (clearFaultAxis s a).state := by
  unfold clearFaultAxis
  dsimp only
  repeat' split
  all_goals exact ⟨rfl, rfl, rfl, rfl⟩

/-- The rule of an axis command writes the axes alone (R104 to R110). -/
theorem commandRule_core {code : Byte} {run : State → Fin Config.axisCount → Answer} (named : commandRule code = some run)
    (a : Fin Config.axisCount) : SameCore s (run s a).state := by
  unfold commandRule at named
  split at named
  case h_7 => cases named
  all_goals obtain rfl := Option.some.inj named
  case h_1 => exact enableAxis_core s a
  case h_2 => exact disableAxis_core s a
  case h_3 => exact homeAxis_core s a
  case h_4 => exact .of_axes (trackAxis_frame s a)
  case h_5 => exact .of_axes (stopAxis_frame s a)
  case h_6 => exact clearFaultAxis_core s a

theorem onAxis_core {run : State → Fin Config.axisCount → Answer} (core : ∀ a, SameCore s (run s a).state) :
    SameCore s (onAxis run r s).state := by
  unfold onAxis
  split
  · split
    · exact core _
    · exact .refl s
  · exact .refl s

theorem command_core {code : Byte} {run : State → Fin Config.axisCount → Answer} (named : commandRule code = some run) :
    SameCore s (onAxis run r s).state :=
  onAxis_core r s (commandRule_core s named)

theorem runAxisCommand_core : SameCore s (runAxisCommand r s).state := by
  unfold runAxisCommand
  split
  · split
    · next named => exact command_core r s named
    · exact .refl s
  · exact .refl s

end quiet

/-- The execution of a request that writes nothing that the laws read. -/
theorem execute_quiet {mine : Request → Bool} {waits : Bool} {run : Request → State → Answer} {s t : State}
    (core : ∀ r, SameCore s (run r s).state) (outcome : execute mine waits run s = .next t) : LawsKept s t :=
  execute_kept (fun r => .of_core (core r)) outcome

/-! ## Every command and every step -/

/-- Every command keeps the four laws. -/
theorem exec_kept {i : Instr} {s t : State} (outcome : exec i s = .next t) : LawsKept s t := by
  cases i with
  | powerOnReset => exact done_kept outcome (powerOnState_kept s)
  | uFrameReceived f => exact execUFrameReceived_kept outcome
  | dFrameReceived f => exact execDFrameReceived_kept outcome
  | cadenceLoss => exact execCadenceLoss_kept outcome
  | localSync => exact execLocalSync_kept outcome
  | bodyEvaluation => exact execBodyEvaluation_kept outcome
  | targetMapping => exact execTargetMapping_kept outcome
  | axisShaping => exact execAxisShaping_kept outcome
  | setpointEmission => exact execSetpointEmission_kept outcome
  | occurrenceService => exact execOccurrenceService_kept outcome
  | dTransmitEnd => exact execDTransmitEnd_kept outcome
  | uTransmitEnd => exact execUTransmitEnd_kept outcome
  | unknownRequest => exact execute_quiet (fun r => runUnknown_core r s) outcome
  | readStatus => exact execute_quiet (fun r => runReadStatus_core r s) outcome
  | setEpoch => exact execute_kept (fun r => runSetEpoch_kept r s) outcome
  | setRate => exact execute_kept (fun r => runSetRate_kept r s) outcome
  | setEpochWatch => exact execute_kept (fun r => runSetEpochWatch_kept r s) outcome
  | setCadence => exact execute_kept (fun r => runSetCadence_kept r s) outcome
  | setSite => exact execute_quiet (fun r => runSetSite_core r s) outcome
  | readAxis => exact execute_quiet (fun r => runReadAxis_core r s) outcome
  | writeAxis => exact execute_quiet (fun r => runWriteAxis_core r s) outcome
  | enable => exact execute_quiet (fun r => command_core r s (code := 0) rfl) outcome
  | disable => exact execute_quiet (fun r => command_core r s (code := 1) rfl) outcome
  | home => exact execute_quiet (fun r => command_core r s (code := 2) rfl) outcome
  | track => exact execute_quiet (fun r => command_core r s (code := 3) rfl) outcome
  | stop => exact execute_quiet (fun r => command_core r s (code := 4) rfl) outcome
  | clearFault => exact execute_quiet (fun r => command_core r s (code := 5) rfl) outcome
  | readBody => exact execute_quiet (fun r => runReadBody_core r s) outcome
  | writeBody => exact execute_kept (fun r => runWriteBody_kept r s) outcome
  | loadSegments => exact execute_kept (fun r => runLoadSegments_kept r s) outcome
  | readSegments => exact execute_quiet (fun r => runReadSegments_core r s) outcome
  | swapBanks => exact execute_quiet (fun r => runSwapBanks_core r s) outcome
  | cancelSwap => exact execute_quiet (fun r => runCancelSwap_core r s) outcome
  | writeCues => exact execute_kept (fun r => runWriteCues_kept r s) outcome
  | writeChannel => exact execute_kept (fun r => onChannel_kept (writeChannel_kept r s)) outcome
  | armChannel => exact execute_kept (fun r => onChannel_kept (armChannel_kept r s)) outcome
  | disarmChannel => exact execute_kept (fun r => onChannel_kept (disarmChannel_kept r s)) outcome
  | enterShow => exact execute_quiet (fun r => runEnterShow_core r s) outcome
  | enterSetup => exact execute_quiet (fun r => runEnterSetup_core r s) outcome
  | softReset => exact execute_kept (fun r => runSoftReset_kept r s) outcome
  | axisCommand => exact execute_quiet (fun r => runAxisCommand_core r s) outcome

/-- Every step keeps the four laws. -/
theorem step_kept {s t : State} (stepped : step s = .next t) : LawsKept s t := by
  unfold step at stepped
  split at stepped
  · exact notDue_kept stepped
  · next rest _ =>
      have taken : LawsKept s { s with pending := rest } := .of_core ⟨rfl, rfl, rfl, rfl⟩
      exact taken.trans (exec_kept stepped)

/-- Settles O59: the numbers and the canonical form by their definitions, the laws by what every step keeps. -/
theorem clockAndStoresStaySound : Obligations.ClockAndStoresStaySound := by
  refine ⟨by decide, by decide, fun _ => Slots.wf_iff Segment.zero, fun _ => Slots.wf_iff CueAction.none,
    fun b slot => Slots.read_eq_find Segment.zero b.slots slot, fun s i => Slots.read_eq_find CueAction.none s.cues.list i,
    fun s t ⟨clock, stores⟩ stepped => ?_⟩
  have kept := step_kept stepped
  exact ⟨kept.clock clock, kept.stores stores⟩

/-- Settles O60: the laws by what every step keeps. -/
theorem cuesStaySound : Obligations.CuesStaySound := by
  intro s t ⟨cues, completes⟩ stepped
  have kept := step_kept stepped
  exact ⟨kept.cues cues, kept.completes completes⟩

/-! ## The laws after power-on reset -/

/-- A bank after power-on has no enabled descriptor to fail (R31, R37). -/
theorem bankFailure_reset : bankFailure Bank.reset = none := by
  refine List.findSome?_eq_none_iff.mpr fun k _ => ?_
  have disabled : Bank.reset.descriptor k = Descriptor.zero := by simp [Bank.descriptor, Bank.reset, State.get_eq]
  rw [disabled]
  rfl

theorem ephemerisLaw_reset : EphemerisLaw Store.reset := by
  have bank (b : Fin 2) : Store.reset.banks.get b = Bank.reset := bank_reset b
  refine ⟨?_, fun _ => ?_⟩
  · rw [Store.activeBank, bank]
    exact bankFailure_reset
  · rw [bank]
    exact bankFailure_reset

theorem axisSound_reset (a : Nat) : AxisSound a Axis.reset where
  travel := by unfold Travel.Valid; decide
  source := rfl
  offset := by decide
  position := fun live => absurd rfl live
  speed := by decide
  atRest := fun _ => rfl
  homed := rfl
  record := rfl
  tracked := nofun
  history := by decide
  misses := by decide

theorem historiesSound_reset : HistoriesSound State.reset := by
  refine ⟨fun a => ?_, nofun⟩
  rw [axis_reset]
  exact ⟨⟨Nat.zero_le _, List.nodup_nil, rfl⟩, fun _ => rfl⟩

/-- Settles O53: each law on the power-on values. -/
theorem lawsHoldAtReset : Obligations.LawsHoldAtReset := by
  refine ⟨rfl, ?_, ⟨fun _ => ⟨rfl, rfl⟩, fun _ => ⟨rfl, rfl, fun _ => rfl⟩⟩, nofun, ⟨List.nodup_nil, nofun⟩,
    ephemerisLaw_reset, storesSound_reset, clockSound_reset, fun a => ?_, fun a b named => ?_, historiesSound_reset,
    cuesSound_reset, completesAtOnce_of_idle rfl⟩
  · unfold BuffersBounded
    decide
  · rw [axis_reset]
    exact axisSound_reset a.val
  · rw [axis_reset] at named
    exact absurd rfl named

end Sys2Proof.Machine

end

section
/-! What a step can do to the Ephemeris Store, said once, and the law of the active bank and the sealed shadow
(R20, R24, R31, R32, R35, R37). -/

namespace Sys2Proof.Machine

/-! ## What can happen to the store -/

/-- What one step can do to the Ephemeris Store: leave it, write a bank that R25 and R26 do not refuse, schedule a swap with a
shadow that passes validation (R30), end a pending swap without making it (R36, R37), make it (R35), or put every bank at its
power-on values (R37). -/
inductive StoreStep : Store → Store → Prop where
  | same (t : Store) : StoreStep t t
  | written (t : Store) {bank : Fin 2} (x : Bank) (writable : t.refusesWrite bank = false) :
      StoreStep t { t with banks := t.banks.set bank.val x bank.isLt }
  | scheduled (t : Store) (swap : SwapState) (valid : bankFailure (t.banks.get t.shadow) = none) :
      StoreStep t { t with swap := swap }
  | released (t : Store) : StoreStep t { t with swap := .idle }
  | swapped (t : Store) (pending : t.swap ≠ .idle) : StoreStep t { t with active := t.shadow, swap := .idle }
  | powerOn (t : Store) : StoreStep t Store.reset

theorem StoreStep.of_eq {t u : Store} (same : u = t) : StoreStep t u := by
  rw [same]
  exact .same t

/-- A bank that may be written is the shadow, with no swap pending (R25, R26, R32). -/
theorem refusesWrite_eq_false_iff (t : Store) (bank : Fin 2) :
    t.refusesWrite bank = false ↔ bank ≠ t.active ∧ t.swap = .idle := by
  by_cases active : bank = t.active <;> simp [Store.refusesWrite, Store.sealed, active]

theorem refusesWrite_eq_true_iff (t : Store) (bank : Fin 2) :
    t.refusesWrite bank = true ↔ bank = t.active ∨ t.swap ≠ .idle := by
  by_cases active : bank = t.active <;> simp [Store.refusesWrite, Store.sealed, active]

/-- The active bank stays valid, and so does a sealed shadow (R24, R32). -/
theorem StoreStep.keeps_law {t u : Store} (step : StoreStep t u) (law : EphemerisLaw t) : EphemerisLaw u := by
  obtain ⟨active, shadow⟩ := law
  cases step with
  | same => exact ⟨active, shadow⟩
  | @written bank x writable =>
      obtain ⟨other, idle⟩ := (refusesWrite_eq_false_iff t bank).mp writable
      have kept : (t.banks.set bank.val x bank.isLt).get t.active = t.banks.get t.active := by
        have apart : bank.val ≠ t.active.val := fun same => other (Fin.ext same)
        simp [State.get_eq, apart]
      refine ⟨?_, fun pending => absurd idle pending⟩
      show bankFailure ((t.banks.set bank.val x bank.isLt).get t.active) = none
      rw [kept]
      exact active
  | scheduled swap valid => exact ⟨active, fun _ => valid⟩
  | released => exact ⟨active, fun pending => absurd rfl pending⟩
  | swapped pending => exact ⟨shadow pending, fun again => absurd rfl again⟩
  | powerOn => exact ephemerisLaw_reset

/-! ## The end of a step and the execution of a request -/

theorem done_store {s t u : State} (outcome : done u = .next t) (step : StoreStep s.store u.store) :
    StoreStep s.store t.store := by
  obtain rfl := Host.Outcome.next.inj outcome
  rwa [State.settle_store]

theorem notDue_store {s t : State} (outcome : notDue s = .next t) : StoreStep s.store t.store := by
  obtain rfl := Host.Outcome.next.inj outcome
  exact .same _

/-- An execution does to the store what its rule does. -/
theorem execute_store {mine : Request → Bool} {waits : Bool} {run : Request → State → Answer} {s t : State}
    (step : ∀ r, StoreStep s.store (run r s).state.store) (outcome : execute mine waits run s = .next t) :
    StoreStep s.store t.store := by
  unfold execute at outcome
  split at outcome
  · exact notDue_store outcome
  · next r _ _ =>
      split at outcome
      · exact done_store outcome (step r)
      · exact notDue_store outcome

/-! ## Syncs (R33 to R35) -/

theorem swap_ne_idle_of_due {swap : SwapState} {e : Int} (due : swapDue swap e = true) : swap ≠ .idle := by
  rintro rfl
  cases due

theorem takeSync_storeStep (s : State) : StoreStep s.store (takeSync s).store := by
  cases inFlight : s.eval with
  | some ev =>
      rw [takeSync_of_busy inFlight]
      exact .of_eq (applySync_store s)
  | none =>
      rw [takeSync_of_idle inFlight, issueEvaluation_store, applySync_store]
      split
      · next due => exact .swapped s.store (swap_ne_idle_of_due due)
      · exact .same _

theorem cadenceStep_store (s : State) : (cadenceStep s).store = s.store := by rw [cadenceStep_eq]

theorem execCadenceLoss_store {s t : State} (outcome : execCadenceLoss s = .next t) : StoreStep s.store t.store := by
  unfold execCadenceLoss at outcome
  split at outcome
  · exact done_store outcome (.same _)
  all_goals exact notDue_store outcome

theorem execLocalSync_store {s t : State} (outcome : execLocalSync s = .next t) : StoreStep s.store t.store := by
  unfold execLocalSync at outcome
  split at outcome
  · exact done_store outcome (takeSync_storeStep { s with clock := { s.clock with localGenerator := some s.clock.localPeriod } })
  all_goals exact notDue_store outcome

/-! ## Frames at the ports -/

theorem service_store (s : State) (t : Trigger) : (service s t).store = s.store := by rw [(service_cueStep s t).frame]

theorem handOccurrence_store (s : State) (t : Trigger) : (handOccurrence s t).store = s.store := by
  unfold handOccurrence
  split
  · split <;> rfl
  · exact service_store s t

theorem takeRecord_store (node : Nat) (cycle : BitVec 8) (s : State) (r : FeedbackRecord) :
    (takeRecord node cycle s r).store = s.store := by
  unfold takeRecord
  split
  · rfl
  · next a _ =>
      have handled : (handleRecord s a cycle r).1.store = s.store := by rw [(handleRecord_step s a cycle r).frame]
      exact List.foldlRecOn (motive := fun u => u.store = s.store) _ _ handled fun u kept t _ =>
        (handOccurrence_store u t).trans kept

theorem takeFeedback_store (s : State) (node : Nat) (payload : List Byte) : (takeFeedback s node payload).store = s.store := by
  unfold takeFeedback
  split
  · rfl
  · exact List.foldlRecOn (motive := fun u => u.store = s.store) _ _ rfl fun u kept r _ =>
      (takeRecord_store node _ u r).trans kept

theorem discard_store (s : State) (port : Port) (reason : LinkReason) : (s.discard port reason).store = s.store := by
  cases port <;> rfl

theorem placeDownstream_store (s : State) (f : Frame) : (s.placeDownstream f).store = s.store := by
  unfold State.placeDownstream
  split <;> rfl

theorem placeUpstream_store (s : State) (f : Frame) : (s.placeUpstream f).store = s.store := by
  unfold State.placeUpstream
  split <;> rfl

theorem admitRequest_store (s : State) (payload : List Byte) : (admitRequest s payload).store = s.store := by
  unfold admitRequest
  repeat' split
  all_goals rfl

theorem receiveCheck_store {s u : State} {port : Port} {f : Frame} (failed : receiveCheck s port f = some u) :
    u.store = s.store := by
  unfold receiveCheck at failed
  split at failed
  · cases failed
  all_goals
    obtain rfl := Option.some.inj failed
    exact discard_store _ port _

theorem dispatchU_storeStep (s : State) (f : Frame) : StoreStep s.store (dispatchU s f).store := by
  unfold dispatchU
  split
  · exact .of_eq (discard_store s _ _)
  split
  · exact .of_eq (placeDownstream_store s f)
  split
  · exact cadenceStep_store s ▸ takeSync_storeStep (cadenceStep s)
  split
  · exact .of_eq (admitRequest_store s _)
  · exact .of_eq (discard_store s _ _)

theorem dispatchD_store (s : State) (f : Frame) : (dispatchD s f).store = s.store := by
  unfold dispatchD
  split
  · exact discard_store s _ _
  split
  · exact (placeUpstream_store _ f).trans (takeFeedback_store s _ _)
  · exact placeUpstream_store s f

theorem execUFrameReceived_store {f : Frame} {s t : State} (outcome : execUFrameReceived f s = .next t) :
    StoreStep s.store t.store := by
  unfold execUFrameReceived at outcome
  split at outcome
  · next failed => exact done_store outcome (.of_eq (receiveCheck_store failed))
  · exact done_store outcome (dispatchU_storeStep s f)

theorem execDFrameReceived_store {f : Frame} {s t : State} (outcome : execDFrameReceived f s = .next t) :
    StoreStep s.store t.store := by
  unfold execDFrameReceived at outcome
  split at outcome
  · next failed => exact done_store outcome (.of_eq (receiveCheck_store failed))
  · exact done_store outcome (.of_eq (dispatchD_store s f))

theorem execDTransmitEnd_store {s t : State} (outcome : execDTransmitEnd s = .next t) : StoreStep s.store t.store := by
  unfold execDTransmitEnd at outcome
  split at outcome
  · exact done_store outcome (.same _)
  · exact notDue_store outcome

theorem execUTransmitEnd_store {s t : State} (outcome : execUTransmitEnd s = .next t) : StoreStep s.store t.store := by
  unfold execUTransmitEnd at outcome
  split at outcome
  · exact done_store outcome (.same _)
  · exact notDue_store outcome

/-! ## The stages of an evaluation, which read the active bank and write neither (R20, R39) -/

theorem evaluateOneBody_store (s : State) (ev : Evaluation) (body : Fin Config.bodyCount) :
    (evaluateOneBody s ev body).store = s.store := by rw [evaluateOneBody_frame]

theorem shapeOneAxis_store (s : State) (ev : Evaluation) (a : Fin Config.axisCount) :
    (shapeOneAxis s ev a).store = s.store := by
  have ended := endShaping_frame s a (shapedAxis ev (s.axis a))
  unfold shapeOneAxis
  dsimp only
  rw [ended]

theorem completeIfServiced_store (s : State) : s.completeIfServiced.store = s.store := by rw [completeIfServiced_frame]

theorem emitSetpoint_store (s : State) (ev : Evaluation) : (emitSetpoint s ev).store = s.store := by
  have tested := (foldl_emitAxis_emitted (s.cycle + 1) ev.records { s with cycle := s.cycle + 1 }).frame
  unfold emitSetpoint
  dsimp only
  rw [completeIfServiced_store, tested]
  rfl

theorem execBodyEvaluation_store {s t : State} (outcome : execBodyEvaluation s = .next t) : StoreStep s.store t.store := by
  unfold execBodyEvaluation at outcome
  split at outcome
  · exact notDue_store outcome
  next ev _ =>
  split at outcome
  · next body _ => exact done_store outcome (.of_eq (evaluateOneBody_store s ev body))
  all_goals exact notDue_store outcome

theorem execTargetMapping_store {s t : State} (outcome : execTargetMapping s = .next t) : StoreStep s.store t.store := by
  unfold execTargetMapping at outcome
  split at outcome
  · exact notDue_store outcome
  split at outcome
  · exact done_store outcome (.same _)
  all_goals exact notDue_store outcome

theorem execAxisShaping_store {s t : State} (outcome : execAxisShaping s = .next t) : StoreStep s.store t.store := by
  unfold execAxisShaping at outcome
  split at outcome
  · exact notDue_store outcome
  next ev _ =>
  split at outcome
  · split at outcome
    · exact done_store outcome (.of_eq (shapeOneAxis_store s ev _))
    · exact notDue_store outcome
  all_goals exact notDue_store outcome

theorem execSetpointEmission_store {s t : State} (outcome : execSetpointEmission s = .next t) :
    StoreStep s.store t.store := by
  unfold execSetpointEmission at outcome
  split at outcome
  · exact notDue_store outcome
  next ev _ =>
  split at outcome
  · split at outcome
    · exact done_store outcome (.of_eq (emitSetpoint_store s ev))
    · exact notDue_store outcome
  all_goals exact notDue_store outcome

theorem execOccurrenceService_store {s t : State} (outcome : execOccurrenceService s = .next t) :
    StoreStep s.store t.store := by
  unfold execOccurrenceService at outcome
  split at outcome
  · split at outcome
    · exact done_store outcome (.of_eq ((completeIfServiced_store _).trans (service_store _ _)))
    · exact done_store outcome (.of_eq (completeIfServiced_store s))
    all_goals exact notDue_store outcome
  · split at outcome
    · exact done_store outcome (.of_eq (service_store _ _))
    · exact notDue_store outcome

/-! ## The requests of the store (R25, R26, R30, R36) -/

section requests

variable (r : Request) (s : State)

theorem runLoadSegments_storeStep : StoreStep s.store (runLoadSegments r s).state.store := by
  unfold runLoadSegments
  dsimp only
  split
  · exact .same _
  split
  · exact .same _
  split
  · exact .same _
  · next writable => exact .written s.store _ (Bool.not_eq_true _ ▸ writable)

theorem runWriteBody_storeStep : StoreStep s.store (runWriteBody r s).state.store := by
  unfold runWriteBody
  split
  · split
    · exact .same _
    split
    · exact .same _
    · next writable => exact .written s.store _ (Bool.not_eq_true _ ▸ writable)
  · exact .same _

theorem scheduleSwap_storeStep (swap : SwapState) : StoreStep s.store (scheduleSwap s swap).state.store := by
  unfold scheduleSwap
  split
  · exact .same _
  split
  · exact .same _
  · next valid => exact .scheduled s.store swap valid

theorem runSwapBanks_storeStep : StoreStep s.store (runSwapBanks r s).state.store := by
  unfold runSwapBanks
  dsimp only
  split
  · exact scheduleSwap_storeStep s _
  · split
    · exact scheduleSwap_storeStep s _
    · exact .same _
  · exact .same _

theorem runCancelSwap_storeStep : StoreStep s.store (runCancelSwap r s).state.store := by
  unfold runCancelSwap
  split
  · exact .same _
  split
  · exact .same _
  · exact .released s.store

theorem runSoftReset_storeStep : StoreStep s.store (runSoftReset r s).state.store := by
  unfold runSoftReset
  split
  · exact .same _
  · exact .released s.store

/-! ## The requests that leave the store as it stands -/

theorem runReadStatus_store : (runReadStatus r s).state.store = s.store := by
  unfold runReadStatus
  dsimp only
  repeat' split
  all_goals rfl

theorem runSetEpoch_store : (runSetEpoch r s).state.store = s.store := by
  unfold runSetEpoch
  dsimp only
  split <;> rfl

theorem runSetRate_store : (runSetRate r s).state.store = s.store := by
  unfold runSetRate
  dsimp only
  split <;> rfl

theorem runSetEpochWatch_store : (runSetEpochWatch r s).state.store = s.store := by
  unfold runSetEpochWatch
  dsimp only
  split <;> rfl

theorem runSetCadence_store : (runSetCadence r s).state.store = s.store := by
  unfold runSetCadence
  dsimp only
  split <;> rfl

theorem runSetSite_store : (runSetSite r s).state.store = s.store := by
  unfold runSetSite
  dsimp only
  split <;> rfl

theorem runReadAxis_store : (runReadAxis r s).state.store = s.store := by
  unfold runReadAxis
  dsimp only
  repeat' split
  all_goals rfl

theorem writeAxisItems_store (a : Fin Config.axisCount) (items : Items) : (writeAxisItems s a items).state.store = s.store := by
  unfold writeAxisItems
  dsimp only
  repeat' split
  all_goals rfl

theorem runWriteAxis_store : (runWriteAxis r s).state.store = s.store := by
  unfold runWriteAxis
  dsimp only
  split
  · rfl
  split
  · rfl
  · exact writeAxisItems_store s _ _

theorem runReadSegments_store : (runReadSegments r s).state.store = s.store := by
  unfold runReadSegments
  dsimp only
  repeat' split
  all_goals rfl

theorem runReadBody_store : (runReadBody r s).state.store = s.store := by
  unfold runReadBody
  dsimp only
  repeat' split
  all_goals rfl

theorem runWriteCues_store : (runWriteCues r s).state.store = s.store := by
  unfold runWriteCues
  dsimp only
  repeat' split
  all_goals rfl

theorem onChannel_store {run : Request → State → Fin Config.channelCount → Answer}
    (kept : ∀ c, (run r s c).state.store = s.store) : (onChannel run r s).state.store = s.store := by
  unfold onChannel
  split
  · rfl
  split
  · rfl
  · exact kept _

theorem writeChannel_store (c : Fin Config.channelCount) : (writeChannel r s c).state.store = s.store := by
  unfold writeChannel
  repeat' split
  all_goals rfl

theorem armChannel_store (c : Fin Config.channelCount) : (armChannel r s c).state.store = s.store := by
  unfold armChannel
  repeat' split
  all_goals rfl

theorem disarmChannel_store (c : Fin Config.channelCount) : (disarmChannel r s c).state.store = s.store := by
  unfold disarmChannel
  split <;> rfl

theorem runEnterShow_store : (runEnterShow r s).state.store = s.store := by
  unfold runEnterShow
  repeat' split
  all_goals rfl

theorem runEnterSetup_store : (runEnterSetup r s).state.store = s.store := by
  unfold runEnterSetup
  split <;> rfl

/-- The rule of an axis command leaves the store (R104 to R110). -/
theorem commandRule_store {code : Byte} {run : State → Fin Config.axisCount → Answer} (named : commandRule code = some run)
    (a : Fin Config.axisCount) : (run s a).state.store = s.store := by
  unfold commandRule at named
  split at named
  case h_7 => cases named
  all_goals obtain rfl := Option.some.inj named
  case h_4 => rw [trackAxis_frame]
  case h_5 => rw [stopAxis_frame]
  case' h_1 => unfold enableAxis
  case' h_2 => unfold disableAxis
  case' h_3 => unfold homeAxis
  case' h_6 => unfold clearFaultAxis
  all_goals
    dsimp only
    repeat' split
    all_goals rfl

theorem command_store {code : Byte} {run : State → Fin Config.axisCount → Answer} (named : commandRule code = some run) :
    (onAxis run r s).state.store = s.store := by
  unfold onAxis
  split
  · split
    · exact commandRule_store s named _
    · rfl
  · rfl

theorem runAxisCommand_store : (runAxisCommand r s).state.store = s.store := by
  unfold runAxisCommand
  split
  · split
    · next named => exact command_store r s named
    · rfl
  · rfl

end requests

/-- The execution of a request that leaves the store as it stands. -/
theorem execute_sameStore {mine : Request → Bool} {waits : Bool} {run : Request → State → Answer} {s t : State}
    (same : ∀ r, (run r s).state.store = s.store) (outcome : execute mine waits run s = .next t) :
    StoreStep s.store t.store :=
  execute_store (fun r => .of_eq (same r)) outcome

/-! ## Every command and every step -/

/-- Every command does one of these things to the store. -/
theorem exec_store {i : Instr} {s t : State} (outcome : exec i s = .next t) : StoreStep s.store t.store := by
  cases i with
  | powerOnReset => exact done_store outcome (.powerOn s.store)
  | uFrameReceived f => exact execUFrameReceived_store outcome
  | dFrameReceived f => exact execDFrameReceived_store outcome
  | cadenceLoss => exact execCadenceLoss_store outcome
  | localSync => exact execLocalSync_store outcome
  | bodyEvaluation => exact execBodyEvaluation_store outcome
  | targetMapping => exact execTargetMapping_store outcome
  | axisShaping => exact execAxisShaping_store outcome
  | setpointEmission => exact execSetpointEmission_store outcome
  | occurrenceService => exact execOccurrenceService_store outcome
  | dTransmitEnd => exact execDTransmitEnd_store outcome
  | uTransmitEnd => exact execUTransmitEnd_store outcome
  | unknownRequest => exact execute_sameStore (fun _ => rfl) outcome
  | readStatus => exact execute_sameStore (fun r => runReadStatus_store r s) outcome
  | setEpoch => exact execute_sameStore (fun r => runSetEpoch_store r s) outcome
  | setRate => exact execute_sameStore (fun r => runSetRate_store r s) outcome
  | setEpochWatch => exact execute_sameStore (fun r => runSetEpochWatch_store r s) outcome
  | setCadence => exact execute_sameStore (fun r => runSetCadence_store r s) outcome
  | setSite => exact execute_sameStore (fun r => runSetSite_store r s) outcome
  | readAxis => exact execute_sameStore (fun r => runReadAxis_store r s) outcome
  | writeAxis => exact execute_sameStore (fun r => runWriteAxis_store r s) outcome
  | enable => exact execute_sameStore (fun r => command_store r s (code := 0) rfl) outcome
  | disable => exact execute_sameStore (fun r => command_store r s (code := 1) rfl) outcome
  | home => exact execute_sameStore (fun r => command_store r s (code := 2) rfl) outcome
  | track => exact execute_sameStore (fun r => command_store r s (code := 3) rfl) outcome
  | stop => exact execute_sameStore (fun r => command_store r s (code := 4) rfl) outcome
  | clearFault => exact execute_sameStore (fun r => command_store r s (code := 5) rfl) outcome
  | readBody => exact execute_sameStore (fun r => runReadBody_store r s) outcome
  | writeBody => exact execute_store (fun r => runWriteBody_storeStep r s) outcome
  | loadSegments => exact execute_store (fun r => runLoadSegments_storeStep r s) outcome
  | readSegments => exact execute_sameStore (fun r => runReadSegments_store r s) outcome
  | swapBanks => exact execute_store (fun r => runSwapBanks_storeStep r s) outcome
  | cancelSwap => exact execute_store (fun r => runCancelSwap_storeStep r s) outcome
  | writeCues => exact execute_sameStore (fun r => runWriteCues_store r s) outcome
  | writeChannel => exact execute_sameStore (fun r => onChannel_store r s (writeChannel_store r s)) outcome
  | armChannel => exact execute_sameStore (fun r => onChannel_store r s (armChannel_store r s)) outcome
  | disarmChannel => exact execute_sameStore (fun r => onChannel_store r s (disarmChannel_store r s)) outcome
  | enterShow => exact execute_sameStore (fun r => runEnterShow_store r s) outcome
  | enterSetup => exact execute_sameStore (fun r => runEnterSetup_store r s) outcome
  | softReset => exact execute_store (fun r => runSoftReset_storeStep r s) outcome
  | axisCommand => exact execute_sameStore (fun r => runAxisCommand_store r s) outcome

/-- Every step does one of these things to the store. -/
theorem step_store {s t : State} (stepped : step s = .next t) : StoreStep s.store t.store := by
  unfold step at stepped
  split at stepped
  · exact notDue_store stepped
  · next rest _ => exact exec_store (s := { s with pending := rest }) stepped

/-- Settles O56: each thing that a step can do to the store keeps the law. -/
theorem ephemerisLawIsKept : Obligations.EphemerisLawIsKept :=
  fun _ _ law stepped => (step_store stepped).keeps_law law

/-! ## The two resets (R37, R56) -/

@[simp] theorem bank_powerOnState (s : State) (b : Fin 2) : (powerOnState s).bank b = Bank.reset := bank_reset b

theorem body_powerOnState (s : State) (body : Fin Config.bodyCount) : (powerOnState s).body body = Body.reset := by
  simp [State.body, powerOnState, State.reset, State.get_eq]

theorem body_softResetState (s : State) (r : Request) (body : Fin Config.bodyCount) :
    (softResetState s r).body body = (s.body body).softReset := by
  simp [State.body, softResetState, State.get_eq]

/-- With no swap pending neither bank is sealed (R32). -/
theorem sealed_of_idle {t : Store} (idle : t.swap = .idle) (b : Fin 2) : t.sealed b = false := by
  simp [Store.sealed, idle]

/-- The end of a step leaves each bank and each body's record. -/
theorem settle_bank (s : State) (b : Fin 2) : s.settle.bank b = s.bank b := by simp [State.bank]
theorem settle_body (s : State) (body : Fin Config.bodyCount) : s.settle.body body = s.body body := by simp [State.body]

/-- Settles O4: the power-on values, and the soft reset's, which the end of the step leaves. -/
theorem storeAndBodiesAfterResets : Obligations.StoreAndBodiesAfterResets := by
  refine ⟨rfl, rfl, fun s => ⟨⟨_, rfl, ?_⟩, fun r rest head code bare => ⟨fun busy => ?_, fun idle => ?_⟩⟩⟩
  · have store : (powerOnState s).settle.store = Store.reset := State.settle_store _
    refine ⟨congrArg Store.active store, congrArg Store.swap store, sealed_of_idle (congrArg Store.swap store),
      fun b slot => ?_, fun b body => ?_, fun body => ?_⟩
    · rw [settle_bank, bank_powerOnState]
      rfl
    · rw [settle_bank, bank_powerOnState]
      simp [Bank.descriptor, Bank.reset, State.get_eq]
    · rw [settle_body, body_powerOnState]
      rfl
  · exact execute_held (by simpa [State.inFlight, Option.isSome_iff_ne_none] using busy)
  · have store : ((softResetState s r).answer r .ok []).settle.store = { s.store with swap := .idle } :=
      State.settle_store _
    have swap : ((softResetState s r).answer r .ok []).settle.store.swap = .idle := by rw [store]
    refine ⟨_, exec_softReset_of_idle head code bare idle, by rw [store], swap, sealed_of_idle swap, fun b => ?_,
      fun body => ?_⟩
    · rw [settle_bank]
      rfl
    · rw [settle_body, State.body_answer, body_softResetState]
      rfl

end Sys2Proof.Machine

end

section
/-! Validation of a bank and what it gives the lookup; SWAP_BANKS, CANCEL_SWAP and when a pending swap falls due
(R20, R24, R30 to R36, R40, R41). -/

namespace Sys2Proof.Machine

/-! ## Searches of ascending lists -/

/-- In an ascending list a search finds the answer of the least member that has one. -/
theorem findSome?_eq_some_iff_of_ascending {α β : Type} {lt : α → α → Prop} (asymm : ∀ {a b}, lt a b → ¬lt b a) {l : List α}
    (ascending : l.Pairwise lt) (f : α → Option β) (y : β) :
    l.findSome? f = some y ↔ ∃ a ∈ l, f a = some y ∧ ∀ b ∈ l, lt b a → f b = none := by
  induction l with
  | nil => simp
  | cons x l ih =>
      obtain ⟨least, ascending⟩ := List.pairwise_cons.mp ascending
      cases first : f x with
      | some z =>
          rw [List.findSome?_cons_of_isSome (by simp [first]), first]
          constructor
          · intro found
            refine ⟨x, List.mem_cons_self, first.trans found, fun b among below => ?_⟩
            rcases List.mem_cons.mp among with rfl | later
            · exact absurd below (asymm below)
            · exact absurd below (asymm (least b later))
          · rintro ⟨a, among, found, before⟩
            rcases List.mem_cons.mp among with rfl | later
            · exact first.symm.trans found
            · have missed := before x List.mem_cons_self (least a later)
              rw [first] at missed
              cases missed
      | none =>
          rw [List.findSome?_cons_of_isNone (by simp [first]), ih ascending]
          simp [first]

theorem finRange_ascending (n : Nat) : (List.finRange n).Pairwise fun i j => i.val < j.val :=
  List.pairwise_lt_finRange n

/-! ## The conditions of validation (R31) -/

/-- The condition that a check tests, of a descriptor and its window position j (R31). -/
def StoreCheck.Holds (b : Bank) (d : Descriptor) (j : Nat) : StoreCheck → Prop
  | .window => d.base + d.length ≤ Config.slotCount
  | .span => 1 ≤ (b.segment (d.base + j)).span
  | .finish => (b.segment (d.base + j)).start + (b.segment (d.base + j)).span ≤ dayLimit + 1
  | .order =>
      1 ≤ j →
        (b.segment (d.base + (j - 1))).start + (b.segment (d.base + (j - 1))).span ≤ (b.segment (d.base + j)).start

/-- Window position j passes SPAN, END and ORDER. -/
def PositionValid (b : Bank) (d : Descriptor) (j : Nat) : Prop :=
  StoreCheck.span.Holds b d j ∧ StoreCheck.finish.Holds b d j ∧ StoreCheck.order.Holds b d j

/-- A descriptor passes WINDOW, and each of its positions the other checks. -/
def WindowValid (b : Bank) (d : Descriptor) : Prop :=
  StoreCheck.window.Holds b d 0 ∧ ∀ j, j < d.length → PositionValid b d j

/-- The check is the first that position j fails, in the order of SPAN, END and ORDER. -/
def FirstFailureAt (b : Bank) (d : Descriptor) (j : Nat) (check : StoreCheck) : Prop :=
  check ≠ .window ∧ ¬check.Holds b d j ∧ (check ≠ .span → StoreCheck.span.Holds b d j) ∧
    (check = .order → StoreCheck.finish.Holds b d j)

/-- The check, at this position, is the first that a descriptor fails: WINDOW at position 0, or else at the first position that
fails one. -/
def FirstFailure (b : Bank) (d : Descriptor) (check : StoreCheck) (i : Nat) : Prop :=
  ¬check.Holds b d i ∧ (check = .window → i = 0) ∧
    (check ≠ .window →
      StoreCheck.window.Holds b d 0 ∧ i < d.length ∧ (∀ j, j < i → PositionValid b d j) ∧
        (check ≠ .span → StoreCheck.span.Holds b d i) ∧ (check = .order → StoreCheck.finish.Holds b d i))

section checks

variable (b : Bank) (d : Descriptor) (i : Nat)

theorem span_holds_iff : StoreCheck.span.Holds b d i ↔ (b.segment (d.base + i)).span ≠ 0 :=
  Nat.one_le_iff_ne_zero

theorem finish_holds_iff :
    StoreCheck.finish.Holds b d i ↔
      ¬(b.segment (d.base + i)).start + (b.segment (d.base + i)).span > dayLimit + 1 :=
  Int.not_lt.symm

theorem order_holds_iff :
    StoreCheck.order.Holds b d i ↔
      ¬(0 < i ∧
        (b.segment (d.base + i - 1)).start + (b.segment (d.base + i - 1)).span > (b.segment (d.base + i)).start) := by
  rw [not_and, Int.not_lt]
  refine forall_congr' fun (later : 1 ≤ i) => ?_
  rw [Nat.add_sub_assoc later]

/-- The first check that a position fails, if it fails one. -/
theorem segmentFailure_cases :
    (segmentFailure b d.base i = none ∧ PositionValid b d i) ∨
      ∃ check, segmentFailure b d.base i = some check ∧ FirstFailureAt b d i check := by
  unfold segmentFailure
  dsimp only
  split
  · next fails => exact .inr ⟨.span, rfl, nofun, fun holds => (span_holds_iff b d i).mp holds fails, nofun, nofun⟩
  next span =>
  have span := (span_holds_iff b d i).mpr span
  split
  · next fails =>
      exact .inr ⟨.finish, rfl, nofun, fun holds => (finish_holds_iff b d i).mp holds fails, fun _ => span, nofun⟩
  next finish =>
  have finish := (finish_holds_iff b d i).mpr finish
  split
  · next fails =>
      exact .inr ⟨.order, rfl, nofun, fun holds => (order_holds_iff b d i).mp holds fails, fun _ => span, fun _ => finish⟩
  · next order => exact .inl ⟨rfl, span, finish, (order_holds_iff b d i).mpr order⟩

variable {b d i}

theorem FirstFailureAt.not_valid {check : StoreCheck} (fails : FirstFailureAt b d i check) : ¬PositionValid b d i := by
  rintro ⟨span, finish, order⟩
  obtain ⟨notWindow, fails, _, _⟩ := fails
  cases check with
  | window => exact notWindow rfl
  | span => exact fails span
  | finish => exact fails finish
  | order => exact fails order

/-- No position has two first failures. -/
theorem FirstFailureAt.unique {c c' : StoreCheck} (first : FirstFailureAt b d i c) (second : FirstFailureAt b d i c') :
    c = c' := by
  obtain ⟨notWindow, fails, span, finish⟩ := first
  obtain ⟨notWindow', fails', span', finish'⟩ := second
  cases c with
  | window => exact absurd rfl notWindow
  | span => exact Classical.byContradiction fun other => fails (span' (Ne.symm other))
  | finish =>
      cases c' with
      | window => exact absurd rfl notWindow'
      | span => exact absurd (span nofun) fails'
      | finish => rfl
      | order => exact absurd (finish' rfl) fails
  | order =>
      cases c' with
      | window => exact absurd rfl notWindow'
      | span => exact absurd (span nofun) fails'
      | finish => exact absurd (finish rfl) fails'
      | order => rfl

variable (b d i)

theorem segmentFailure_eq_none_iff : segmentFailure b d.base i = none ↔ PositionValid b d i := by
  rcases segmentFailure_cases b d i with ⟨passes, valid⟩ | ⟨check, failed, fails⟩
  · exact iff_of_true passes valid
  · exact iff_of_false (by simp [failed]) fails.not_valid

theorem segmentFailure_eq_some_iff (check : StoreCheck) :
    segmentFailure b d.base i = some check ↔ FirstFailureAt b d i check := by
  rcases segmentFailure_cases b d i with ⟨passes, valid⟩ | ⟨first, failed, fails⟩
  · exact iff_of_false (by simp [passes]) fun fails => fails.not_valid valid
  · rw [failed, Option.some.injEq]
    exact ⟨fun same => same ▸ fails, fails.unique⟩

/-! ## The first failure of a descriptor and of a bank (R31) -/

/-- The first failure of the positions of a window that lies within the bank. -/
def windowFailure : Option (StoreCheck × Nat) :=
  (List.range d.length).findSome? fun j => (segmentFailure b d.base j).map fun c => (c, j)

theorem windowFailure_eq_some_iff (check : StoreCheck) :
    windowFailure b d = some (check, i) ↔
      i < d.length ∧ FirstFailureAt b d i check ∧ ∀ j, j < i → PositionValid b d j := by
  unfold windowFailure
  rw [findSome?_eq_some_iff_of_ascending Nat.lt_asymm List.pairwise_lt_range]
  simp only [List.mem_range, Option.map_eq_some_iff, Option.map_eq_none_iff, segmentFailure_eq_none_iff,
    segmentFailure_eq_some_iff, Prod.mk.injEq]
  constructor
  · rintro ⟨_, inside, ⟨_, fails, rfl, rfl⟩, before⟩
    exact ⟨inside, fails, fun j below => before j (Nat.lt_trans below inside) below⟩
  · rintro ⟨inside, fails, before⟩
    exact ⟨i, inside, ⟨check, fails, rfl, rfl⟩, fun j _ below => before j below⟩

theorem windowFailure_eq_none_iff :
    windowFailure b d = none ↔ ∀ j, j < d.length → PositionValid b d j := by
  simp [windowFailure, segmentFailure_eq_none_iff]

/-- A disabled descriptor is not checked (R31). -/
theorem descriptorFailure_of_disabled {b : Bank} {d : Descriptor} (disabled : ¬d.enabled = true) :
    descriptorFailure b d = none := by
  simp [descriptorFailure, disabled]

theorem descriptorFailure_of_outside {b : Bank} {d : Descriptor} (enabled : d.enabled = true)
    (outside : ¬StoreCheck.window.Holds b d 0) : descriptorFailure b d = some (.window, 0) := by
  have outside : d.base + d.length > Config.slotCount := Nat.not_le.mp outside
  simp [descriptorFailure, enabled, outside]

theorem descriptorFailure_of_inside {b : Bank} {d : Descriptor} (enabled : d.enabled = true)
    (inside : StoreCheck.window.Holds b d 0) :
    descriptorFailure b d = windowFailure b d := by
  have inside : ¬d.base + d.length > Config.slotCount := Nat.not_lt.mpr inside
  simp [descriptorFailure, windowFailure, enabled, inside]

theorem descriptorFailure_eq_none_iff : descriptorFailure b d = none ↔ (d.enabled = true → WindowValid b d) := by
  by_cases enabled : d.enabled = true
  · by_cases inside : StoreCheck.window.Holds b d 0
    · rw [descriptorFailure_of_inside enabled inside, windowFailure_eq_none_iff]
      simp [WindowValid, enabled, inside]
    · simp [descriptorFailure_of_outside enabled inside, WindowValid, enabled, inside]
  · simp [descriptorFailure_of_disabled enabled, enabled]

theorem descriptorFailure_eq_some_iff (check : StoreCheck) :
    descriptorFailure b d = some (check, i) ↔ d.enabled = true ∧ FirstFailure b d check i := by
  by_cases enabled : d.enabled = true
  · by_cases inside : StoreCheck.window.Holds b d 0
    · rw [descriptorFailure_of_inside enabled inside, windowFailure_eq_some_iff]
      constructor
      · rintro ⟨within, ⟨notWindow, fails, span, finish⟩, before⟩
        exact ⟨enabled, fails, fun window => absurd window notWindow, fun _ => ⟨inside, within, before, span, finish⟩⟩
      · rintro ⟨_, fails, _, position⟩
        have notWindow : check ≠ .window := by
          rintro rfl
          exact fails inside
        obtain ⟨_, within, before, span, finish⟩ := position notWindow
        exact ⟨within, ⟨notWindow, fails, span, finish⟩, before⟩
    · rw [descriptorFailure_of_outside enabled inside, Option.some.injEq, Prod.mk.injEq]
      constructor
      · rintro ⟨rfl, rfl⟩
        exact ⟨enabled, inside, fun _ => rfl, fun notWindow => absurd rfl notWindow⟩
      · rintro ⟨_, _, place, position⟩
        have window : check = .window := Classical.byContradiction fun notWindow => inside (position notWindow).1
        exact ⟨window.symm, (place window).symm⟩
  · simp [descriptorFailure_of_disabled enabled, enabled]

end checks

/-- A bank passes validation when the window of every enabled descriptor is valid (R31). -/
theorem bankFailure_eq_none_iff (b : Bank) :
    bankFailure b = none ↔ ∀ body, (b.descriptor body).enabled = true → WindowValid b (b.descriptor body) := by
  simp [bankFailure, descriptorFailure_eq_none_iff]

/-- A bank's first failure is that of the lowest body that fails (R31). -/
theorem bankFailure_eq_some_iff (b : Bank) (body : Fin Config.bodyCount) (check : StoreCheck) (i : Nat) :
    bankFailure b = some (body, check, i) ↔
      (∀ k, k < body → (b.descriptor k).enabled = true → WindowValid b (b.descriptor k)) ∧
        (b.descriptor body).enabled = true ∧ FirstFailure b (b.descriptor body) check i := by
  unfold bankFailure
  rw [findSome?_eq_some_iff_of_ascending Nat.lt_asymm (finRange_ascending _)]
  simp only [List.mem_finRange, true_and, true_implies, Option.map_eq_some_iff, Option.map_eq_none_iff,
    descriptorFailure_eq_none_iff, Prod.mk.injEq]
  constructor
  · rintro ⟨_, ⟨_, fails, rfl, rfl⟩, before⟩
    exact ⟨before, (descriptorFailure_eq_some_iff b _ i check).mp fails⟩
  · rintro ⟨before, fails⟩
    exact ⟨body, ⟨_, (descriptorFailure_eq_some_iff b _ i check).mpr fails, rfl, rfl⟩, before⟩

/-! ## The lookup in a bank that has passed validation (R24, R40, R41) -/

/-- In a valid window a segment has a day, and ends before the next one starts. -/
theorem WindowValid.end_le_next {b : Bank} {d : Descriptor} (valid : WindowValid b d) {j : Nat} (inside : j + 1 < d.length) :
    (b.segment (d.base + j)).start < (b.segment (d.base + j)).start + (b.segment (d.base + j)).span ∧
      (b.segment (d.base + j)).start + (b.segment (d.base + j)).span ≤ (b.segment (d.base + (j + 1))).start := by
  obtain ⟨_, positions⟩ := valid
  obtain ⟨span, _, _⟩ := positions j (Nat.lt_of_succ_lt inside)
  obtain ⟨_, _, order⟩ := positions (j + 1) inside
  have span : 1 ≤ (b.segment (d.base + j)).span := span
  exact ⟨by omega, order (Nat.succ_pos j)⟩

/-- In a valid window a segment ends before any later one starts. -/
theorem WindowValid.end_le_start {b : Bank} {d : Descriptor} (valid : WindowValid b d) {i j : Nat} (order : i < j)
    (inside : j < d.length) :
    (b.segment (d.base + i)).start + (b.segment (d.base + i)).span ≤ (b.segment (d.base + j)).start := by
  induction order with
  | refl => exact (valid.end_le_next inside).2
  | @step j order ih =>
      have upToHere := ih (Nat.lt_of_succ_lt inside)
      obtain ⟨day, next⟩ := valid.end_le_next inside
      exact Int.le_trans upToHere (Int.le_trans (Int.le_of_lt day) next)

/-- In a valid window at most one segment covers a day (R24). -/
theorem WindowValid.covering_unique {b : Bank} {d : Descriptor} (valid : WindowValid b d) {day : Int} {i j : Nat}
    (hi : i < d.length) (hj : j < d.length) (coversI : (b.segment (d.base + i)).covers day = true)
    (coversJ : (b.segment (d.base + j)).covers day = true) : i = j := by
  obtain ⟨fromI, toI⟩ := (covers_iff _ _).mp coversI
  obtain ⟨fromJ, toJ⟩ := (covers_iff _ _).mp coversJ
  rcases Nat.lt_trichotomy i j with before | same | after
  · have apart := valid.end_le_start before hj
    omega
  · exact same
  · have apart := valid.end_le_start after hi
    omega

/-- What the lookup finds covers the day. -/
theorem covers_of_coveringPosition {b : Bank} {d : Descriptor} {day : Int} {i : Nat} (found : coveringPosition b d day = some i) :
    i < d.length ∧ (b.segment (d.base + i)).covers day = true := by
  unfold coveringPosition at found
  have covers := List.find?_some found
  exact ⟨List.mem_range.mp (List.mem_of_find?_eq_some found), covers⟩

/-- In a valid window the lookup finds the segment that covers the day (R40). -/
theorem WindowValid.coveringPosition_eq_some_iff {b : Bank} {d : Descriptor} (valid : WindowValid b d) (day : Int) (i : Nat) :
    coveringPosition b d day = some i ↔ i < d.length ∧ (b.segment (d.base + i)).covers day = true := by
  refine ⟨covers_of_coveringPosition, fun ⟨inside, covers⟩ => ?_⟩
  cases found : coveringPosition b d day with
  | none => exact absurd covers (List.find?_eq_none.mp found i (List.mem_range.mpr inside))
  | some j =>
      obtain ⟨inside', covers'⟩ := covers_of_coveringPosition found
      rw [valid.covering_unique inside' inside covers' covers]

/-- Settles O17: the segments of a valid window lie end before start, so that no two cover a day. -/
theorem lookupFindsTheOneSegment : Obligations.LookupFindsTheOneSegment := by
  refine ⟨covers_iff, fun _ => rfl, fun b body day => ?_⟩
  intro d passes enabled
  have valid := (bankFailure_eq_none_iff b).mp passes body enabled
  exact ⟨fun i j hi hj => valid.covering_unique hi hj, valid.coveringPosition_eq_some_iff day⟩

/-! ## SWAP_BANKS and CANCEL_SWAP (R30, R36) -/

theorem scheduleSwap_of_pending {s : State} (swap : SwapState) (pending : s.store.swap ≠ .idle) :
    scheduleSwap s swap = refuse s .state :=
  if_pos pending

theorem scheduleSwap_of_valid {s : State} (swap : SwapState) (idle : s.store.swap = .idle)
    (valid : bankFailure (s.bank s.store.shadow) = none) :
    scheduleSwap s swap = accept { s with store := { s.store with swap := swap } } [] := by
  simp [scheduleSwap, idle, valid]

/-- A refusal names the failure (R31, R184). -/
theorem scheduleSwap_of_invalid {s : State} (swap : SwapState) {body : Fin Config.bodyCount} {check : StoreCheck} {i : Nat}
    (idle : s.store.swap = .idle) (invalid : bankFailure (s.bank s.store.shadow) = some (body, check, i)) :
    scheduleSwap s swap =
      { state := s, result := .bank, content := codeByte body.val :: codeByte check.code :: natBytes 2 i } := by
  simp [scheduleSwap, idle, invalid]

theorem runSwapBanks_immediate {r : Request} (s : State) (args : r.args = [0]) :
    runSwapBanks r s = scheduleSwap s .pendingNext := by
  simp [runSwapBanks, args]

/-- An epoch form's arguments are the form code and the four bytes of its day. -/
theorem runSwapBanks_of_five {r : Request} (s : State) {day : List Byte} (length : day.length = 4) (args : r.args = 1 :: day) :
    runSwapBanks r s =
      if within (-dayLimit) dayLimit (beInt day) then
        scheduleSwap s (.pendingEpoch (beInt day) (swapSide (beInt day) s.clock.epoch))
      else refuse s .range := by
  match day, length with
  | [a, b, c, d], _ => simp [runSwapBanks, args, slice]

theorem runSwapBanks_epoch {r : Request} (s : State) {day : Int} (lo : -dayLimit ≤ day) (hi : day ≤ dayLimit)
    (args : r.args = 1 :: intBytes 4 day) :
    runSwapBanks r s = scheduleSwap s (.pendingEpoch day (swapSide day s.clock.epoch)) := by
  have inRange := within_iff.mpr ⟨lo, hi⟩
  unfold dayLimit at lo hi
  have read : beInt (intBytes 4 day) = day := beInt_intBytes (by decide) (by omega) (by omega)
  rw [runSwapBanks_of_five s (intBytes_length 4 day) args, read]
  exact if_pos inRange

theorem runSwapBanks_refuses {r : Request} (s : State) (immediate : r.args ≠ [0])
    (epoch : ∀ day, -dayLimit ≤ day → day ≤ dayLimit → r.args ≠ 1 :: intBytes 4 day) :
    runSwapBanks r s = refuse s .range := by
  unfold runSwapBanks
  dsimp only
  split
  · next args => exact absurd args immediate
  · next a b c d args =>
      refine if_neg fun inRange => ?_
      obtain ⟨lo, hi⟩ := within_iff.mp inRange
      refine epoch _ lo hi ?_
      rw [args, intBytes_beInt (by simp [slice])]
      rfl
  · rfl

theorem runCancelSwap_refuses_range {r : Request} (s : State) (args : r.args ≠ []) : runCancelSwap r s = refuse s .range :=
  if_pos args

theorem runCancelSwap_refuses_state {r : Request} {s : State} (args : r.args = []) (idle : s.store.swap = .idle) :
    runCancelSwap r s = refuse s .state := by
  simp [runCancelSwap, args, idle]

theorem runCancelSwap_accepts {r : Request} {s : State} (args : r.args = []) (pending : s.store.swap ≠ .idle) :
    runCancelSwap r s = accept { s with store := { s.store with swap := .idle } } [] := by
  simp [runCancelSwap, args, pending]

/-- A request with its own code is answered as its rule runs. -/
theorem answers_of_run {i : Instr} {code : Byte} {waits : Bool} {run : Request → State → Answer} {s : State} {r : Request}
    {rest : List Request} {a : Answer} (arm : exec i s = execute (hasCode code) waits run s)
    (head : s.mgmt.requests = r :: rest) (own : r.code = code) (free : (waits && s.inFlight) = false) (runs : run r s = a) :
    Answers i s r a.state a.result a.content := by
  have due := execute_due (run := run) head (mine := hasCode code) (by simp [hasCode, own]) free
  rw [runs] at due
  exact arm.trans due

/-- The operands of SWAP_BANKS name a swap: NEXT, or a day with the side that the epoch stands on (R30). -/
theorem runSwapBanks_of_named {r : Request} {s : State} {swap : SwapState}
    (named : (r.args = [0] ∧ swap = .pendingNext) ∨
      ∃ day : Int, -dayLimit ≤ day ∧ day ≤ dayLimit ∧ r.args = 1 :: intBytes 4 day ∧
        swap = .pendingEpoch day (swapSide day s.clock.epoch)) :
    runSwapBanks r s = scheduleSwap s swap := by
  rcases named with ⟨args, rfl⟩ | ⟨day, lo, hi, args, rfl⟩
  · exact runSwapBanks_immediate s args
  · exact runSwapBanks_epoch s lo hi args

/-! ## When a pending swap falls due (R33, R34) -/

/-- A swap recorded before its day falls due at the day or later, and one recorded after it at an epoch before the day (R34). -/
theorem swapDue_before_iff (day e : Int) : swapDue (.pendingEpoch day .before) e = true ↔ e ≥ day * turn := by simp [swapDue]
theorem swapDue_after_iff (day e : Int) : swapDue (.pendingEpoch day .after) e = true ↔ e < day * turn := by simp [swapDue]

/-- The epoch at which a side was recorded lies on that side, so that the swap is not due there (R30, R34). -/
theorem swapDue_swapSide (day e : Int) : swapDue (.pendingEpoch day (swapSide day e)) e = false := by
  unfold swapSide
  split
  · next before => simpa [swapDue] using before
  · next after => simpa [swapDue] using after

/-- Settles O46: the two requests by the state of the store, the first failure by the least body and the least position, and the
epochs at which a swap is due. -/
theorem swapRequests : Obligations.SwapRequests := by
  refine ⟨fun s r rest head =>
      ⟨fun code => ⟨fun swap named => ?_, fun immediate epoch => ?_⟩, fun code => ⟨?_, ?_, ?_⟩⟩,
    fun t => ⟨shadow_ne_active t, rfl, sealed_iff t⟩, fun _ _ => rfl, bankFailure_eq_none_iff, fun b body check i => ?_,
    fun day e => ⟨rfl, rfl, swapDue_before_iff day e, swapDue_after_iff day e, swapDue_swapSide day e, rfl⟩⟩
  · have runs := runSwapBanks_of_named named
    refine ⟨fun pending => ?_, fun idle valid => ?_, fun body check i idle invalid => ?_⟩
    · exact answers_of_refuse rfl head code rfl (runs.trans (scheduleSwap_of_pending swap pending))
    · exact answers_of_accept rfl head code rfl (runs.trans (scheduleSwap_of_valid swap idle valid))
    · exact answers_of_run rfl head code rfl (runs.trans (scheduleSwap_of_invalid swap idle invalid))
  · exact answers_of_refuse rfl head code rfl (runSwapBanks_refuses s immediate epoch)
  · exact fun args idle => answers_of_refuse rfl head code rfl (runCancelSwap_refuses_state args idle)
  · exact fun args pending => answers_of_accept rfl head code rfl (runCancelSwap_accepts args pending)
  · exact fun args => answers_of_refuse rfl head code rfl (runCancelSwap_refuses_range s args)
  · have first := bankFailure_eq_some_iff b body check i
    cases check <;> exact first

end Sys2Proof.Machine

end

section
/-! The requests that read the part: READ_STATUS, READ_AXIS, READ_BODY and READ_SEGMENTS, their contents and the payloads they
refuse (R27, R28, R76, R98, R136, R178, R179, R183, R185). -/

namespace Sys2Proof.Machine

/-! ## Bytes that hold a small number -/

theorem codeByte_toNat {n : Nat} (small : n < 256) : (codeByte n).toNat = n := by
  rw [codeByte, BitVec.toNat_ofNat, Nat.mod_eq_of_lt small]

@[simp] theorem codeByte_of_toNat (b : Byte) : codeByte b.toNat = b := by
  rw [codeByte, BitVec.ofNat_toNat, BitVec.setWidth_eq]

theorem codeByte_fin_toNat {n : Nat} (small : n ≤ 256) (i : Fin n) : (codeByte i.val).toNat = i.val :=
  codeByte_toNat (Nat.lt_of_lt_of_le i.isLt small)

theorem indexOf_eq_some_iff {n k : Nat} {i : Fin n} : indexOf n k = some i ↔ k = i.val := by
  unfold indexOf
  split
  · simp [Fin.ext_iff]
  · next outside => exact iff_of_false nofun fun same => outside (same ▸ i.isLt)

@[simp] theorem indexOf_val {n : Nat} (i : Fin n) : indexOf n i.val = some i := indexOf_eq_some_iff.mpr rfl

/-- Two bytes, each read as a number, and what follows them. -/
theorem eq_codeBytes_of_length {bs : List Byte} (length : 2 ≤ bs.length) :
    bs = codeByte (beNat (slice bs 0 1)) :: codeByte (beNat (slice bs 1 1)) :: bs.drop 2 := by
  match bs, length with
  | x :: y :: tail, _ => simp [slice]

theorem eq_codeBytes_of_length_two {bs : List Byte} (length : bs.length = 2) :
    bs = [codeByte (beNat (slice bs 0 1)), codeByte (beNat (slice bs 1 1))] := by
  have fields := eq_codeBytes_of_length (Nat.le_of_eq length.symm)
  rwa [List.drop_of_length_le (Nat.le_of_eq length)] at fields

/-- A bank, a slot number of two bytes and a count, and what follows them, read from at least four bytes. -/
theorem eq_slotHeader_of_length {bs : List Byte} (length : 4 ≤ bs.length) :
    bs = codeByte (beNat (slice bs 0 1)) ::
      (natBytes 2 (beNat (slice bs 1 2)) ++ codeByte (beNat (slice bs 3 1)) :: bs.drop 4) := by
  match bs, length with
  | w :: x :: y :: z :: tail, _ =>
      have slot : natBytes 2 (beNat [x, y]) = [x, y] := natBytes_beNat rfl
      simp [slice, slot]

/-! ## READ_STATUS (R178, R179) -/

theorem NoticeKind.classA_eq (k : NoticeKind) : k.classA = (decide (k = .fault) || decide (k = .cadence)) := by
  cases k <;> rfl

theorem noticeCount_true (s : State) :
    s.noticeCount true = s.notices.countP fun n => decide (n.kind = .fault) || decide (n.kind = .cadence) := by
  simp [State.noticeCount, NoticeKind.classA_eq]

theorem noticeCount_false (s : State) :
    s.noticeCount false = s.notices.countP fun n => !(decide (n.kind = .fault) || decide (n.kind = .cadence)) := by
  simp [State.noticeCount, NoticeKind.classA_eq]

/-- The swap day and side are 0 but in PENDING_EPOCH (R185). -/
theorem swapStatus_eq (swap : SwapState) :
    swapStatus swap =
      match swap with
      | .pendingEpoch day side => intBytes 4 day ++ [codeByte side.code]
      | _ => [0, 0, 0, 0, 0] := by
  cases swap <;> rfl

theorem runReadStatus_accepts {r : Request} {n : Nat} (s : State) (selector : n ≤ 3) (args : r.args = [codeByte n]) :
    runReadStatus r s =
      accept { s with ring :=
        { s.ring with
          errorsU := if n = 1 ∨ n = 3 then 0 else s.ring.errorsU,
          errorsD := if n = 2 ∨ n = 3 then 0 else s.ring.errorsD } } (statusContent s) := by
  have read : (codeByte n).toNat = n := codeByte_toNat (by omega)
  unfold runReadStatus
  rw [args]
  dsimp only
  rw [read]
  exact if_neg (Nat.not_lt.mpr selector)

theorem runReadStatus_refuses {r : Request} (s : State) (other : ∀ n, n ≤ 3 → r.args ≠ [codeByte n]) :
    runReadStatus r s = refuse s .range := by
  unfold runReadStatus
  split
  · next selector args =>
      refine if_pos (Nat.not_le.mp fun named => other selector.toNat named ?_)
      rw [args, codeByte_of_toNat]
  · rfl

/-! ## READ_AXIS (R76, R98, R136, R183) -/

theorem runReadAxis_accepts {r : Request} {a : Fin Config.axisCount} {group : Nat} (s : State) (named : group ≤ 2)
    (args : r.args = [codeByte a.val, codeByte group]) :
    runReadAxis r s =
      accept s
        ([codeByte a.val, codeByte group, codeByte (groupItems group).length] ++
          (groupItems group).flatMap (fun id => encodeItem id (axisItem (s.axis a) s.site id)) ++
          (if group = 2 then motionRecords (s.axis a) else [])) := by
  have axis : (codeByte a.val).toNat = a.val := codeByte_fin_toNat (by decide) a
  have read : (codeByte group).toNat = group := codeByte_toNat (by omega)
  have first : beNat (slice [codeByte a.val, codeByte group] 0 1) = a.val := by simp [slice, axis]
  have second : beNat (slice [codeByte a.val, codeByte group] 1 1) = group := by simp [slice, read]
  unfold runReadAxis
  rw [args, first, second, indexOf_val]
  refine if_neg ?_
  simpa using named

theorem runReadAxis_refuses {r : Request} (s : State)
    (other : ∀ (a : Fin Config.axisCount) (group : Nat), group ≤ 2 → r.args ≠ [codeByte a.val, codeByte group]) :
    runReadAxis r s = refuse s .range := by
  unfold runReadAxis
  dsimp only
  split
  · rfl
  · next a axis =>
      refine if_pos (Classical.byContradiction fun accepted => ?_)
      obtain ⟨length, group⟩ := not_or.mp accepted
      refine other a _ (Nat.not_lt.mp group) ?_
      rw [← indexOf_eq_some_iff.mp axis]
      exact eq_codeBytes_of_length_two (Classical.not_not.mp length)

/-- The offset is given as the kind reads it (R59; log entry 14). -/
theorem readOffset_eq (kind : AxisKind) (offset : BitVec 32) :
    readOffset kind offset = if kind = .bounded then offset.toInt else (offset.toNat : Int) := by
  cases kind <;> rfl

theorem absentValue_eq : absentValue = -2 ^ 63 := rfl

/-! ## READ_BODY (R28) -/

theorem runReadBody_accepts {r : Request} {bank : Fin 2} {body : Fin Config.bodyCount} (s : State)
    (args : r.args = [codeByte bank.val, codeByte body.val]) :
    runReadBody r s =
      accept s
        ([codeByte bank.val, codeByte body.val, codeByte s.store.active.val, flagByte (s.store.sealed bank)] ++
          encodeDescriptor ((s.bank bank).descriptor body) ++ natBytes 2 ((s.body body).segment.getD 65535) ++
          [codeByte (s.body body).coverage.code] ++ intBytes 4 (s.body body).longitude ++
          intBytes 4 (s.body body).latitude ++ [flagByte (s.body body).clamped]) := by
  have named : (codeByte bank.val).toNat = bank.val := codeByte_fin_toNat (by decide) bank
  have numbered : (codeByte body.val).toNat = body.val := codeByte_fin_toNat (by decide) body
  have first : beNat (slice [codeByte bank.val, codeByte body.val] 0 1) = bank.val := by simp [slice, named]
  have second : beNat (slice [codeByte bank.val, codeByte body.val] 1 1) = body.val := by simp [slice, numbered]
  unfold runReadBody
  rw [args, first, second, indexOf_val, indexOf_val]
  exact if_neg (by simp)

theorem runReadBody_refuses {r : Request} (s : State)
    (other : ∀ (bank : Fin 2) (body : Fin Config.bodyCount), r.args ≠ [codeByte bank.val, codeByte body.val]) :
    runReadBody r s = refuse s .range := by
  unfold runReadBody
  split
  · next bank body named numbered =>
      refine if_pos fun length => other bank body ?_
      rw [← indexOf_eq_some_iff.mp named, ← indexOf_eq_some_iff.mp numbered]
      exact eq_codeBytes_of_length_two length
  · rfl

/-! ## READ_SEGMENTS (R27) -/

/-- The bank, the first slot and the count that the operands of READ_SEGMENTS and LOAD_SEGMENTS begin with, read. -/
theorem slotHeader_fields {bs tail : List Byte} {bank : Fin 2} {first count : Nat} (slot : first < 65536)
    (small : count < 256) (args : bs = codeByte bank.val :: (natBytes 2 first ++ codeByte count :: tail)) :
    beNat (slice bs 0 1) = bank.val ∧ beNat (slice bs 1 2) = first ∧ beNat (slice bs 3 1) = count ∧ bs.drop 4 = tail := by
  subst args
  refine ⟨?_, beNat_natBytes_of_lt (k := 2) slot, ?_, rfl⟩
  · exact (beNat_singleton _).trans (codeByte_fin_toNat (by decide) bank)
  · exact (beNat_singleton _).trans (codeByte_toNat small)

theorem runReadSegments_accepts {r : Request} {bank : Fin 2} {first count : Nat} (s : State) (nonempty : 1 ≤ count)
    (batch : count ≤ Config.segmentBatch) (inside : first + count ≤ Config.slotCount)
    (args : r.args = codeByte bank.val :: (natBytes 2 first ++ [codeByte count])) :
    runReadSegments r s =
      accept s
        (codeByte bank.val :: (natBytes 2 first ++
          [codeByte count, codeByte s.store.active.val, flagByte (s.store.sealed bank)] ++
          (List.range' first count).flatMap fun i => encodeSegment ((s.bank bank).segment i))) := by
  unfold Config.segmentBatch at batch
  unfold Config.slotCount at inside
  obtain ⟨named, slot, number, _⟩ := slotHeader_fields (by omega) (by omega) args
  have length : r.args.length = 4 := by simp [args]
  unfold runReadSegments
  rw [named, slot, number, indexOf_val]
  refine if_neg ?_
  unfold Config.segmentBatch Config.slotCount
  omega

theorem runReadSegments_refuses {r : Request} (s : State)
    (other : ∀ (bank : Fin 2) (first count : Nat), 1 ≤ count → count ≤ Config.segmentBatch →
      first + count ≤ Config.slotCount → r.args ≠ codeByte bank.val :: (natBytes 2 first ++ [codeByte count])) :
    runReadSegments r s = refuse s .range := by
  unfold runReadSegments
  dsimp only
  split
  · rfl
  · next bank named =>
      refine if_pos (Classical.byContradiction fun accepted => ?_)
      obtain ⟨length, nonempty, batch, inside⟩ :
          r.args.length = 4 ∧ 1 ≤ beNat (slice r.args 3 1) ∧ beNat (slice r.args 3 1) ≤ Config.segmentBatch ∧
            beNat (slice r.args 1 2) + beNat (slice r.args 3 1) ≤ Config.slotCount := by omega
      refine other bank _ _ nonempty batch inside ?_
      have header := eq_slotHeader_of_length (Nat.le_of_eq length.symm)
      rw [List.drop_of_length_le (Nat.le_of_eq length), indexOf_eq_some_iff.mp named] at header
      exact header

/-! ## The statement on the reads -/

/-- Settles O44: each read on the operands its rule accepts and on every other payload, and the items of each group. -/
theorem readsAnswer : Obligations.ReadsAnswer := by
  refine ⟨fun s r rest head => ⟨fun code => ⟨fun n selector args => ?_, fun other => ?_⟩,
    fun code idle => ⟨fun a group ids args named => ?_, fun other => ?_⟩,
    fun code => ⟨fun bank body args => ?_, fun other => ?_⟩,
    fun code => ⟨fun bank first count nonempty batch inside args => ?_, fun other => ?_⟩⟩, fun x site => ?_⟩
  · have answered := answers_of_accept (i := .readStatus) rfl head code rfl (runReadStatus_accepts s selector args)
    unfold statusContent at answered
    rw [swapStatus_eq, noticeCount_true, noticeCount_false] at answered
    exact answered
  · exact answers_of_refuse rfl head code rfl (runReadStatus_refuses s other)
  · have free : (true && s.inFlight) = false := by simp [State.inFlight, idle]
    rcases named with ⟨rfl, rfl⟩ | ⟨rfl, rfl⟩ | ⟨rfl, rfl⟩
    all_goals exact answers_of_accept rfl head code free (runReadAxis_accepts s (by decide) args)
  · exact answers_of_refuse rfl head code (by simp [State.inFlight, idle]) (runReadAxis_refuses s other)
  · exact answers_of_accept rfl head code rfl (runReadBody_accepts s args)
  · exact answers_of_refuse rfl head code rfl (runReadBody_refuses s other)
  · exact answers_of_accept rfl head code rfl (runReadSegments_accepts s nonempty batch inside args)
  · exact answers_of_refuse rfl head code rfl (runReadSegments_refuses s other)
  · obtain ⟨_, _, _, _, _, _, _, _, _, _, causes, _⟩ := x
    intro t g d flag orAbsent
    simp only [orAbsent, ← absentValue_eq, ← readOffset_eq]
    exact ⟨rfl, rfl, by cases causes <;> rfl⟩

end Sys2Proof.Machine

end

section
/-! The requests that write the Ephemeris Store: the records of LOAD_SEGMENTS and WRITE_BODY read from their bytes and written back
to them, and the two requests on every payload (R25, R26, R29, R32). -/

namespace Sys2Proof.Machine

/-! ## Records of fields -/

/-- A field that begins after the first part of a record. -/
theorem slice_append_of_le {a b : List Byte} {i k : Nat} (after : a.length ≤ i) :
    slice (a ++ b) i k = slice b (i - a.length) k := by
  have right := slice_append_right (a := a) (b := b) (j := i - a.length) (k := k) rfl
  rwa [Nat.add_sub_cancel' after] at right

/-- A field that is the whole of what is left. -/
theorem slice_zero_of_length {a : List Byte} {k : Nat} (length : a.length = k) : slice a 0 k = a :=
  List.take_of_length_le (Nat.le_of_eq length)

/-- Two fields in a row are one. -/
theorem slice_zero_append_slice (bs : List Byte) (j k : Nat) : slice bs 0 j ++ slice bs j k = slice bs 0 (j + k) := by
  simp [slice, List.take_add]

/-- A signed field of four bytes reads back. -/
theorem beInt_intBytes_four {x : Int} (lo : -halfTurn ≤ x) (hi : x < halfTurn) : beInt (intBytes 4 x) = x := by
  unfold halfTurn at lo hi
  exact beInt_intBytes (by decide) (by omega) (by omega)

/-- An angle's field reads back. -/
theorem beNat_intBytes_four {x : Int} (lo : 0 ≤ x) (hi : x < turn) : (beNat (intBytes 4 x) : Int) = x := by
  unfold turn at hi
  exact beNat_intBytes lo (by omega)

/-- What a signed field of four bytes holds. -/
theorem beInt_four_range {bs : List Byte} (length : bs.length = 4) : -halfTurn ≤ beInt bs ∧ beInt bs < halfTurn := by
  have small := beNat_lt bs
  unfold beInt halfTurn
  rw [length] at *
  split <;> omega

/-- What an angle's field holds. -/
theorem beNat_four_range {bs : List Byte} (length : bs.length = 4) : (0 : Int) ≤ beNat bs ∧ (beNat bs : Int) < turn := by
  have small := beNat_lt bs
  unfold turn
  rw [length] at small
  omega

/-! ## Segments (R21, section 11.3.1) -/

theorem decodeSegment_encodeSegment {g : Segment} (fits : g.Fits) : decodeSegment (encodeSegment g) = g := by
  obtain ⟨⟨lo, hi⟩, span, ⟨loAngle, hiAngle⟩, coefficients⟩ := fits
  have start : beInt (intBytes 4 g.start) = g.start :=
    beInt_intBytes_four (Int.le_trans (by decide) lo) (Int.lt_of_le_of_lt hi (by decide))
  have coefficient (c : Int) (among : c ∈ [g.c1, g.c2, g.c3, g.b0, g.b1, g.b2]) : beInt (intBytes 4 c) = c :=
    beInt_intBytes_four (coefficients c among).1 (coefficients c among).2
  unfold decodeSegment encodeSegment
  simp only [List.append_assoc]
  simp (disch := simp) only [slice_append_of_le, slice_append_left, slice_zero_of_length, natBytes_length, intBytes_length,
    Nat.reduceSub]
  rw [start, beNat_natBytes_of_lt (k := 2) span, beNat_intBytes_four loAngle hiAngle, coefficient g.c1 (by simp),
    coefficient g.c2 (by simp), coefficient g.c3 (by simp), coefficient g.b0 (by simp), coefficient g.b1 (by simp),
    coefficient g.b2 (by simp)]

theorem encodeSegment_decodeSegment {bs : List Byte} (length : bs.length = segmentBytes) :
    encodeSegment (decodeSegment bs) = bs := by
  have whole : slice bs 0 34 = bs := slice_zero_of_length length
  unfold segmentBytes at length
  have signed (i : Nat) (inside : i + 4 ≤ 34) : intBytes 4 (beInt (slice bs i 4)) = slice bs i 4 :=
    intBytes_beInt (slice_length (by omega))
  have angle : intBytes 4 (beNat (slice bs 6 4)) = slice bs 6 4 := intBytes_beNat (slice_length (by omega))
  have span : natBytes 2 (beNat (slice bs 4 2)) = slice bs 4 2 := natBytes_beNat (slice_length (by omega))
  unfold encodeSegment decodeSegment
  dsimp only
  rw [signed 0 (by decide), span, angle, signed 10 (by decide), signed 14 (by decide), signed 18 (by decide),
    signed 22 (by decide), signed 26 (by decide), signed 30 (by decide)]
  simp only [slice_zero_append_slice, Nat.reduceAdd, whole]

theorem decodeSegment_fits {bs : List Byte} (length : bs.length = segmentBytes) (lo : -dayLimit ≤ (decodeSegment bs).start)
    (hi : (decodeSegment bs).start ≤ dayLimit) : (decodeSegment bs).Fits := by
  unfold segmentBytes at length
  have signed (i : Nat) (inside : i + 4 ≤ 34) := beInt_four_range (slice_length (bs := bs) (i := i) (k := 4) (by omega))
  have span := beNat_lt (slice bs 4 2)
  rw [slice_length (by omega)] at span
  refine ⟨⟨lo, hi⟩, span, beNat_four_range (slice_length (by omega)), ?_⟩
  simp only [List.forall_mem_cons, List.not_mem_nil, false_imp_iff, implies_true, and_true]
  exact ⟨signed 10 (by decide), signed 14 (by decide), signed 18 (by decide), signed 22 (by decide), signed 26 (by decide),
    signed 30 (by decide)⟩

/-! ## Descriptors (R22, section 11.3.1) -/

theorem flagField_iff (b : Bool) : decide ([flagByte b] = [1]) = b := by cases b <;> rfl

theorem decodeDescriptor_encodeDescriptor {d : Descriptor} (fits : d.Fits) : decodeDescriptor (encodeDescriptor d) = d := by
  obtain ⟨base, length, ⟨loPhase, hiPhase⟩, ⟨loTurns, hiTurns⟩, ⟨loFraction, hiFraction⟩, ⟨loLatitude, hiLatitude⟩,
    ⟨loTolerance, hiTolerance⟩⟩ := fits
  have turns : beInt (intBytes 1 d.turns) = d.turns := beInt_intBytes (by decide) (by omega) (by omega)
  have latitude : beInt (intBytes 4 d.latitude) = d.latitude :=
    beInt_intBytes_four (Int.le_trans (by decide) loLatitude) (Int.lt_of_le_of_lt hiLatitude (by decide))
  have tolerance : (beNat (intBytes 4 d.tolerance) : Int) = d.tolerance :=
    beNat_intBytes_four loTolerance (Int.lt_trans hiTolerance (by decide))
  unfold decodeDescriptor encodeDescriptor
  simp only [List.append_assoc]
  simp (disch := simp) only [slice_append_of_le, slice_append_left, slice_zero_of_length, natBytes_length, intBytes_length,
    List.length_singleton, Nat.reduceSub]
  rw [flagField_iff, beNat_natBytes_of_lt (k := 2) (by omega), beNat_natBytes_of_lt (k := 2) (by omega),
    beNat_intBytes_four loPhase hiPhase, turns, beInt_intBytes_four loFraction hiFraction, latitude, tolerance]

/-- An enable byte of 0 or 1 is the flag that it reads as (R182, R184). -/
theorem flagByte_decide {bs : List Byte} (length : bs.length = 1) (lt : beNat bs < 2) : [flagByte (decide (bs = [1]))] = bs := by
  obtain ⟨b, rfl⟩ := List.length_eq_one_iff.mp length
  rw [beNat_singleton] at lt
  have zeroOrOne : b = 0 ∨ b = 1 := by bv_omega
  rcases zeroOrOne with rfl | rfl <;> rfl

theorem encodeDescriptor_decodeDescriptor {bs : List Byte} (length : bs.length = descriptorBytes)
    (enable : beNat (slice bs 0 1) < 2) : encodeDescriptor (decodeDescriptor bs) = bs := by
  have whole : slice bs 0 22 = bs := slice_zero_of_length length
  unfold descriptorBytes at length
  have signed (i k : Nat) (inside : i + k ≤ 22) : intBytes k (beInt (slice bs i k)) = slice bs i k :=
    intBytes_beInt (slice_length (by omega))
  have angle (i : Nat) (inside : i + 4 ≤ 22) : intBytes 4 (beNat (slice bs i 4)) = slice bs i 4 :=
    intBytes_beNat (slice_length (by omega))
  have number (i : Nat) (inside : i + 2 ≤ 22) : natBytes 2 (beNat (slice bs i 2)) = slice bs i 2 :=
    natBytes_beNat (slice_length (by omega))
  unfold encodeDescriptor decodeDescriptor
  dsimp only
  rw [flagByte_decide (slice_length (by omega)) enable, number 1 (by decide), number 3 (by decide), angle 5 (by decide),
    signed 9 1 (by decide), signed 10 4 (by decide), signed 14 4 (by decide), angle 18 (by decide)]
  simp only [slice_zero_append_slice, Nat.reduceAdd, whole]

/-- The bytes of a descriptor that fits are accepted, and bytes that are accepted are those of one (R26). -/
theorem descriptorAccepted_encodeDescriptor {d : Descriptor} (fits : d.Fits) :
    descriptorAccepted (encodeDescriptor d) = true := by
  have enable : beNat (slice (encodeDescriptor d) 0 1) < 2 := by
    have field : slice (encodeDescriptor d) 0 1 = [flagByte d.enabled] := rfl
    rw [field, beNat_singleton, flagByte_toNat]
    exact Bool.toNat_lt d.enabled
  have read := decodeDescriptor_encodeDescriptor fits
  obtain ⟨base, length, _, turns, _, latitude, loTolerance, hiTolerance⟩ := fits
  unfold descriptorAccepted
  simp only [read, Bool.and_eq_true, decide_eq_true_eq, within_iff]
  unfold Config.slotCount
  exact ⟨⟨⟨⟨⟨enable, by omega⟩, length⟩, turns⟩, latitude⟩, loTolerance, by omega⟩

theorem decodeDescriptor_fits {bs : List Byte} (length : bs.length = descriptorBytes) (accepted : descriptorAccepted bs = true) :
    beNat (slice bs 0 1) < 2 ∧ (decodeDescriptor bs).Fits := by
  unfold descriptorAccepted at accepted
  simp only [Bool.and_eq_true, decide_eq_true_eq, within_iff] at accepted
  obtain ⟨⟨⟨⟨⟨enable, base⟩, window⟩, turns⟩, latitude⟩, loTolerance, hiTolerance⟩ := accepted
  unfold descriptorBytes at length
  exact ⟨enable, Nat.le_of_lt_succ base, window, beNat_four_range (slice_length (by omega)), turns,
    beInt_four_range (slice_length (by omega)), latitude, loTolerance, Int.lt_of_le_sub_one hiTolerance⟩

/-! ## LOAD_SEGMENTS (R25) -/

/-- Whole records, cut and joined again. -/
theorem flatten_chunks {k n : Nat} {bs : List Byte} (length : bs.length = k * n) : (chunks k n bs).flatten = bs := by
  induction n generalizing bs with
  | zero => exact (List.length_eq_zero_iff.mp length).symm
  | succ n ih =>
      rw [chunks, List.flatten_cons, ih (by rw [List.length_drop, length, Nat.mul_succ, Nat.add_sub_cancel]),
        List.take_append_drop]

theorem length_of_mem_chunks {k n : Nat} {bs chunk : List Byte} (length : bs.length = k * n) (among : chunk ∈ chunks k n bs) :
    chunk.length = k := by
  induction n generalizing bs with
  | zero => exact absurd among List.not_mem_nil
  | succ n ih =>
      rw [Nat.mul_succ] at length
      rcases List.mem_cons.mp among with rfl | later
      · rw [List.length_take]
        omega
      · exact ih (by rw [List.length_drop]; omega) later

/-- The records of a LOAD_SEGMENTS as it reads them. -/
def decodeSegments (count : Nat) (bs : List Byte) : List Segment := (chunks segmentBytes count bs).map decodeSegment

theorem decodeSegments_encoded {gs : List Segment} (fits : ∀ g ∈ gs, g.Fits) :
    decodeSegments gs.length (gs.flatMap encodeSegment) = gs := by
  rw [decodeSegments, chunks_flatMap encodeSegment segmentBytes encodeSegment_length, List.map_map]
  exact (List.map_congr_left fun g among => decodeSegment_encodeSegment (fits g among)).trans (List.map_id gs)

theorem encoded_decodeSegments {count : Nat} {bs : List Byte} (length : bs.length = segmentBytes * count) :
    (decodeSegments count bs).flatMap encodeSegment = bs := by
  have same :
      ((chunks segmentBytes count bs).map fun chunk => encodeSegment (decodeSegment chunk)) = chunks segmentBytes count bs :=
    (List.map_congr_left fun _ among => encodeSegment_decodeSegment (length_of_mem_chunks length among)).trans (List.map_id _)
  rw [decodeSegments, List.flatMap_def, List.map_map]
  exact (congrArg List.flatten same).trans (flatten_chunks length)

theorem decodeSegments_length (count : Nat) (bs : List Byte) : (decodeSegments count bs).length = count := by
  rw [decodeSegments, List.length_map, chunks_length]

theorem encodedSegments_length (gs : List Segment) : (gs.flatMap encodeSegment).length = segmentBytes * gs.length := by
  induction gs with
  | nil => rfl
  | cons g gs ih =>
      rw [List.flatMap_cons, List.length_append, encodeSegment_length, ih, List.length_cons, Nat.mul_succ, Nat.add_comm]

/-- A LOAD_SEGMENTS of well-formed operands is refused for a bank that may not be written, and else writes its records (R25). -/
theorem runLoadSegments_of_operands {r : Request} {bank : Fin 2} {first : Nat} {gs : List Segment} (s : State) (nonempty : gs ≠ [])
    (batch : gs.length ≤ Config.segmentBatch) (inside : first + gs.length ≤ Config.slotCount) (fits : ∀ g ∈ gs, g.Fits)
    (args : r.args = loadArgs bank first gs) :
    runLoadSegments r s =
      if s.store.refusesWrite bank then refuse s .bank
      else
        accept (s.setBank bank
          { s.bank bank with slots := Slots.writeAll Segment.zero (s.bank bank).slots first gs }) [] := by
  have positive := List.length_pos_iff.mpr nonempty
  unfold Config.segmentBatch at batch
  unfold Config.slotCount at inside
  obtain ⟨named, slot, number, records⟩ := slotHeader_fields (by omega) (by omega) args
  have length : r.args.length = 4 + segmentBytes * gs.length := by
    rw [args]
    simp only [loadArgs, List.length_cons, List.length_append, natBytes_length, encodedSegments_length]
    omega
  have read : (chunks segmentBytes gs.length (gs.flatMap encodeSegment)).map decodeSegment = gs := decodeSegments_encoded fits
  have days : (gs.all fun g => within (-dayLimit) dayLimit g.start) = true :=
    List.all_eq_true.mpr fun g among => within_iff.mpr (fits g among).1
  unfold runLoadSegments
  rw [named, slot, number, records]
  dsimp only
  rw [read, indexOf_val]
  refine if_neg ?_
  simp only [days, Bool.not_true, Bool.false_eq_true, or_false]
  unfold Config.segmentBatch Config.slotCount
  omega

theorem runLoadSegments_refuses {r : Request} (s : State)
    (other : ∀ (bank : Fin 2) (first : Nat) (gs : List Segment), gs ≠ [] → gs.length ≤ Config.segmentBatch →
      first + gs.length ≤ Config.slotCount → (∀ g ∈ gs, g.Fits) → r.args ≠ loadArgs bank first gs) :
    runLoadSegments r s = refuse s .range := by
  unfold runLoadSegments
  dsimp only
  split
  · rfl
  · next bank named =>
      refine if_pos (Classical.byContradiction fun accepted => ?_)
      simp only [not_or, Bool.not_eq_true', Bool.not_eq_false, Classical.not_not] at accepted
      obtain ⟨length, nonempty, batch, _, inside, days⟩ := accepted
      have tail : (r.args.drop 4).length = segmentBytes * beNat (slice r.args 3 1) := by
        rw [List.length_drop, length, Nat.add_sub_cancel_left]
      have records := decodeSegments_length (beNat (slice r.args 3 1)) (r.args.drop 4)
      refine other bank (beNat (slice r.args 1 2)) (decodeSegments (beNat (slice r.args 3 1)) (r.args.drop 4)) ?_ ?_ ?_ ?_ ?_
      · exact List.ne_nil_of_length_pos (by omega)
      · omega
      · omega
      · intro g among
        obtain ⟨lo, hi⟩ := within_iff.mp (List.all_eq_true.mp days g among)
        obtain ⟨chunk, cut, rfl⟩ := List.mem_map.mp among
        exact decodeSegment_fits (length_of_mem_chunks tail cut) lo hi
      · have header := eq_slotHeader_of_length (bs := r.args) (by omega)
        rw [loadArgs, records, encoded_decodeSegments tail, ← indexOf_eq_some_iff.mp named]
        exact header

/-! ## WRITE_BODY (R26) -/

theorem runWriteBody_of_operands {r : Request} {bank : Fin 2} {body : Fin Config.bodyCount} {d : Descriptor} (s : State)
    (fits : d.Fits) (args : r.args = bodyArgs bank body d) :
    runWriteBody r s =
      if s.store.refusesWrite bank then refuse s .bank
      else
        accept (s.setBank bank
          { s.bank bank with descriptors := (s.bank bank).descriptors.set body.val d body.isLt }) [] := by
  have named : beNat (slice r.args 0 1) = bank.val := by
    rw [args]
    exact (beNat_singleton _).trans (codeByte_fin_toNat (by decide) bank)
  have numbered : beNat (slice r.args 1 1) = body.val := by
    rw [args]
    exact (beNat_singleton _).trans (codeByte_fin_toNat (by decide) body)
  have record : r.args.drop 2 = encodeDescriptor d := by rw [args]; rfl
  have length : r.args.length = 2 + descriptorBytes := by simp [args, bodyArgs, Nat.add_comm 2]
  unfold runWriteBody
  rw [named, numbered, indexOf_val, indexOf_val, record, decodeDescriptor_encodeDescriptor fits]
  refine if_neg ?_
  simp [length, descriptorAccepted_encodeDescriptor fits]

theorem runWriteBody_refuses {r : Request} (s : State)
    (other : ∀ (bank : Fin 2) (body : Fin Config.bodyCount) (d : Descriptor), d.Fits → r.args ≠ bodyArgs bank body d) :
    runWriteBody r s = refuse s .range := by
  unfold runWriteBody
  split
  · next bank body named numbered =>
      refine if_pos (Classical.byContradiction fun accepted => ?_)
      simp only [not_or, Bool.not_eq_true', Bool.not_eq_false, Classical.not_not] at accepted
      obtain ⟨length, accepted⟩ := accepted
      have tail : (r.args.drop 2).length = descriptorBytes := by
        rw [List.length_drop, length, Nat.add_sub_cancel_left]
      obtain ⟨enable, fits⟩ := decodeDescriptor_fits tail accepted
      refine other bank body _ fits ?_
      have header := eq_codeBytes_of_length (bs := r.args) (by omega)
      rw [bodyArgs, encodeDescriptor_decodeDescriptor tail enable, ← indexOf_eq_some_iff.mp named,
        ← indexOf_eq_some_iff.mp numbered]
      exact header
  · rfl

/-! ## Banks after a write -/

/-- The slots after consecutive writes: those written hold the records in their order, and every other is as before. -/
theorem Slots.read_writeAll_eq {α : Type} [DecidableEq α] (dflt : α) {m : Slots α} (canonical : wf dflt m = true) (i j : Nat)
    (xs : List α) :
    read dflt (writeAll dflt m i xs) j = if i ≤ j ∧ j < i + xs.length then xs.getD (j - i) dflt else read dflt m j := by
  rw [read_writeAll dflt canonical]
  by_cases reached : i ≤ j
  · by_cases below : j < i + xs.length
    · have place : j - i < xs.length := by omega
      rw [if_pos reached, if_pos ⟨reached, below⟩, List.getD_eq_getElem?_getD, List.getElem?_eq_getElem place,
        Option.getD_some, Option.getD_some]
    · rw [if_pos reached, if_neg (fun both => below both.2), List.getElem?_eq_none (by omega), Option.getD_none]
  · rw [if_neg reached, if_neg (fun both => reached both.1)]

@[simp] theorem Bank.descriptor_set_same (b : Bank) (body : Fin Config.bodyCount) (d : Descriptor) :
    Bank.descriptor { b with descriptors := b.descriptors.set body.val d body.isLt } body = d := by
  simp [Bank.descriptor, State.get_eq]

theorem Bank.descriptor_set_of_ne {b : Bank} {body other : Fin Config.bodyCount} (d : Descriptor) (apart : other ≠ body) :
    Bank.descriptor { b with descriptors := b.descriptors.set body.val d body.isLt } other = b.descriptor other := by
  have apart : body.val ≠ other.val := fun same => apart (Fin.ext same.symm)
  simp [Bank.descriptor, State.get_eq, apart]

/-! ## The statement on the writes -/

/-- Settles O45: records written into one bank: read back in their slots, with every other slot, descriptor and bank as before. -/
theorem storeWrites : Obligations.StoreWrites := by
  refine fun s r rest head => ⟨fun code => ⟨fun bank first gs nonempty batch inside fits args canonical => ?_, fun other => ?_⟩,
    fun code => ⟨fun bank body d fits args => ?_, fun other => ?_⟩⟩
  · have runs := runLoadSegments_of_operands s nonempty batch inside fits args
    refine ⟨fun refused => ?_, fun shadow idle => ?_⟩
    · rw [if_pos ((refusesWrite_eq_true_iff _ _).mpr refused)] at runs
      exact answers_of_refuse rfl head code rfl runs
    · rw [if_neg (Bool.eq_false_iff.mp ((refusesWrite_eq_false_iff _ _).mpr ⟨shadow, idle⟩))] at runs
      refine ⟨_, answers_of_accept rfl head code rfl runs, fun slot => ?_, ?_,
        fun b => State.bank_setBank_of_ne s bank b _, rfl⟩
      · rw [State.bank_setBank_same]
        exact Slots.read_writeAll_eq Segment.zero canonical first slot gs
      · rw [State.bank_setBank_same]
  · exact answers_of_refuse rfl head code rfl (runLoadSegments_refuses s other)
  · have runs := runWriteBody_of_operands s fits args
    refine ⟨fun refused => ?_, fun shadow idle => ?_⟩
    · rw [if_pos ((refusesWrite_eq_true_iff _ _).mpr refused)] at runs
      exact answers_of_refuse rfl head code rfl runs
    · rw [if_neg (Bool.eq_false_iff.mp ((refusesWrite_eq_false_iff _ _).mpr ⟨shadow, idle⟩))] at runs
      refine ⟨_, answers_of_accept rfl head code rfl runs, ?_, fun b apart => ?_, ?_,
        fun b => State.bank_setBank_of_ne s bank b _, rfl⟩
      · rw [State.bank_setBank_same, Bank.descriptor_set_same]
      · rw [State.bank_setBank_same, Bank.descriptor_set_of_ne d apart]
      · rw [State.bank_setBank_same]
  · exact answers_of_refuse rfl head code rfl (runWriteBody_refuses s other)

end Sys2Proof.Machine

end

section
/-! Body evaluation: the normalised time of a covering segment, the record of a body, and one body of the evaluation in flight
(R39, R43 to R55). -/

namespace Sys2Proof.Machine

/-! ## The normalised time (R43) -/

/-- The elapsed time of an epoch within a segment, in eu, is the epoch less the segment's first instant. -/
theorem elapsed_eq (g : Segment) (e : Int) : (dayOf e - g.start) * turn + fractionOf e = e - g.start * turn := by
  unfold dayOf fractionOf turn
  omega

theorem normalisedTime_eq (g : Segment) (e : Int) : normalisedTime g e = (e - g.start * turn) / g.span := by
  rw [normalisedTime, elapsed_eq]

/-- A segment covers the days from its first instant to the last eu of its last day. -/
theorem Segment.covers_dayOf_iff (g : Segment) (e : Int) :
    g.covers (dayOf e) = true ↔ 0 ≤ e - g.start * turn ∧ e - g.start * turn < g.span * turn := by
  rw [covers_iff]
  unfold dayOf turn
  omega

theorem Segment.span_pos_of_covers {g : Segment} {day : Int} (covers : g.covers day = true) : (0 : Int) < g.span := by
  obtain ⟨first, last⟩ := (covers_iff g day).mp covers
  omega

theorem normalisedTime_range {g : Segment} {e : Int} (covers : g.covers (dayOf e) = true) :
    0 ≤ normalisedTime g e ∧ normalisedTime g e < turn := by
  obtain ⟨first, last⟩ := (g.covers_dayOf_iff e).mp covers
  have span := Segment.span_pos_of_covers covers
  rw [normalisedTime_eq]
  exact ⟨Int.ediv_nonneg first (Int.le_of_lt span), Int.ediv_lt_of_lt_mul span (Int.mul_comm turn g.span ▸ last)⟩

theorem normalisedTime_first (g : Segment) : normalisedTime g (g.start * turn) = 0 := by
  rw [normalisedTime_eq, Int.sub_self, Int.zero_ediv]

/-- The last eu of a segment stands one part below a whole turn, whatever the span. -/
theorem normalisedTime_last {g : Segment} (span : (0 : Int) < g.span) :
    normalisedTime g ((g.start + g.span) * turn - 1) = turn - 1 := by
  have elapsed : (g.start + g.span) * turn - 1 - g.start * turn = (g.span - 1) + g.span * (turn - 1) := by
    unfold turn
    omega
  rw [normalisedTime_eq, elapsed, Int.add_mul_ediv_left _ _ (Int.ne_of_gt span), Int.ediv_eq_zero_of_lt (by omega) (by omega),
    Int.zero_add]

/-- Settles O15: U is the elapsed time over the span, within a turn for a day the segment covers. -/
theorem normalisedTimeOfSegment : Obligations.NormalisedTimeOfSegment := by
  intro g e covers
  obtain ⟨lo, hi⟩ := normalisedTime_range (g := g) (e := e) covers
  refine ⟨rfl, lo, Int.le_sub_one_of_lt hi, fun first => ?_, fun last => ?_⟩
  · rw [first]
    exact normalisedTime_first g
  · rw [last]
    exact normalisedTime_last (Segment.span_pos_of_covers covers)

/-! ## The record of a body (R44 to R47) -/

theorem latitudeSaturated_eq (a : Int) : latitudeSaturated a = decide (a < -quarterTurn ∨ a > quarterTurn) := by
  rw [Bool.eq_iff_iff, decide_eq_true_iff, latitudeSaturated, Bool.not_eq_true', ← Bool.not_eq_true, within_iff]
  omega

/-- The record of a covered body: the cubic, and the saturated quadratic with its clamp flag (R44 to R46). -/
theorem evaluateBody_some (b : Bank) (d : Descriptor) (e : Int) (i : Nat) :
    let g := b.segment (d.base + i)
    let u := normalisedTime g e
    let a := quadraticLatitude g u
    evaluateBody b d e (some i) =
      { segment := some i, coverage := .covered, longitude := cubicLongitude g u,
        latitude := clamp (-quarterTurn) quarterTurn a, clamped := decide (a < -quarterTurn ∨ a > quarterTurn) } := by
  dsimp only [evaluateBody]
  rw [latitudeSaturated_eq]

/-- The record of an uncovered body: its fallback (R47). -/
theorem evaluateBody_none (b : Bank) (d : Descriptor) (e : Int) :
    evaluateBody b d e none =
      { segment := none, coverage := .uncovered, longitude := linearAngle d.phase d.turns d.fraction e, latitude := d.latitude,
        clamped := false } := rfl

/-- Settles O16: the record from the covering segment, and from the fallback, with Horner's steps and the linear angle written out. -/
theorem bodyValues : Obligations.BodyValues :=
  fun b d e => ⟨evaluateBody_some b d e, evaluateBody_none b d e⟩

/-! ## The seam test (R51, R52) -/

/-- The Notice Set after a seam test of window positions i and j: a mismatch between adjacent segments raises SEAM, for the coordinate
of the larger magnitude (R52). -/
def seamNotices (b : Bank) (d : Descriptor) (body : Fin Config.bodyCount) (i j : Nat) (ns : List Notice) : List Notice :=
  let early := b.segment (d.base + min i j)
  let late := b.segment (d.base + max i j)
  let lon := lonSeam early late
  let lat := latSeam early late
  if (j = i + 1 ∨ i = j + 1) ∧ late.start = early.start + early.span ∧ (mag lon > d.tolerance ∨ mag lat > d.tolerance) then
    raiseInto .seam body.val (if mag lat > mag lon then .seam true lat else .seam false lon) ns
  else ns

/-- Two window positions are adjacent where they are neighbours and the lower one's segment ends where the higher one's begins. -/
theorem adjacent_iff (segment : Nat → Segment) (i j : Nat) :
    adjacent i j (segment i) (segment j) = true ↔
      (j = i + 1 ∨ i = j + 1) ∧ (segment (max i j)).start = (segment (min i j)).start + (segment (min i j)).span := by
  simp only [adjacent, Bool.or_eq_true, Bool.and_eq_true, decide_eq_true_eq]
  constructor
  · rintro (⟨rfl, meet⟩ | ⟨rfl, meet⟩)
    · exact ⟨.inl rfl, by simpa using meet⟩
    · exact ⟨.inr rfl, by simpa using meet⟩
  · rintro ⟨rfl | rfl, meet⟩
    · exact .inl ⟨rfl, by simpa using meet⟩
    · exact .inr ⟨rfl, by simpa using meet⟩

theorem seamMismatch_iff (e l : Segment) (tolerance : Int) :
    seamMismatch e l tolerance = true ↔ mag (lonSeam e l) > tolerance ∨ mag (latSeam e l) > tolerance := by
  simp [seamMismatch]

theorem seamNamesLatitude_iff (e l : Segment) : seamNamesLatitude e l = true ↔ mag (latSeam e l) > mag (lonSeam e l) := by
  simp [seamNamesLatitude]

theorem seamTest_eq (s : State) (b : Bank) (d : Descriptor) (body : Fin Config.bodyCount) (i j : Nat) :
    seamTest s b d body i j = { s with notices := seamNotices b d body i j s.notices } := by
  have adjacency := adjacent_iff (fun k => b.segment (d.base + k)) i j
  simp only [seamTest, seamNotices, Bool.and_eq_true, adjacency, seamMismatch_iff, seamNamesLatitude_iff, and_assoc]
  split
  · split <;> rfl
  · rfl

/-! ## The change tests (R50 to R54) -/

/-- The triggers that the change tests of a body add: the table of R50. -/
def changeTriggers (body : Fin Config.bodyCount) (x : Body) (found : Option Nat) : List Trigger :=
  match x.coverage, x.segment, found with
  | .covered, some i, some j => if i = j then [] else [{ kind := .segmentChange, index := body.val }]
  | .covered, _, none => [{ kind := .coverageChange, index := body.val }]
  | .uncovered, _, some _ => [{ kind := .coverageChange, index := body.val }]
  | _, _, _ => []

/-- The Notice Set after the change tests of a body: the table of R50. -/
def changeNotices (b : Bank) (d : Descriptor) (body : Fin Config.bodyCount) (x : Body) (found : Option Nat) (ns : List Notice) :
    List Notice :=
  match x.coverage, x.segment, found with
  | .covered, some i, some j => if i = j then ns else seamNotices b d body i j ns
  | .covered, _, none => raiseInto .coverage body.val (.coverage .uncovered) ns
  | .uncovered, _, some _ => raiseInto .coverage body.val (.coverage .covered) ns
  | _, _, _ => ns

theorem addTriggers_nil (s : State) : s.addTriggers [] = s := by simp [State.addTriggers]

/-- Outside a swap evaluation the tests follow the table of R50; the rows without a change, and UNKNOWN, add nothing. -/
theorem changeTests_eq (s : State) (b : Bank) (d : Descriptor) (body : Fin Config.bodyCount) (x : Body) (found : Option Nat) :
    changeTests s b d body x found false =
      { s with notices := changeNotices b d body x found s.notices }.addTriggers (changeTriggers body x found) := by
  obtain ⟨segment, coverage, _, _, _⟩ := x
  cases coverage with
  | unknown => exact (addTriggers_nil s).symm
  | uncovered =>
      cases found with
      | none => exact (addTriggers_nil s).symm
      | some j => rfl
  | covered =>
      cases found with
      | none => cases segment <;> rfl
      | some j =>
          cases segment with
          | none => exact (addTriggers_nil s).symm
          | some i =>
              by_cases same : i = j
              · simp [changeTests, changeNotices, changeTriggers, same, addTriggers_nil]
              · simp [changeTests, changeNotices, changeTriggers, same, seamTest_eq]

/-- A swap evaluation makes no change test (R54). -/
theorem changeTests_of_swapped (s : State) (b : Bank) (d : Descriptor) (body : Fin Config.bodyCount) (x : Body)
    (found : Option Nat) : changeTests s b d body x found true = s := rfl

/-! ## One body of the evaluation in flight (R39, R48, R49) -/

/-- The record that the evaluation of a body leaves (R48, R49). -/
def recordAfter (s : State) (ev : Evaluation) (body : Fin Config.bodyCount) : Body :=
  let d := s.store.activeBank.descriptor body
  if d.enabled then evaluateBody s.store.activeBank d ev.epoch (coveringPosition s.store.activeBank d (dayOf ev.epoch))
  else holdBody (s.body body)

/-- The triggers that the evaluation of a body adds: none for a disabled body or in a swap evaluation (R48, R54, R55). -/
def triggersAdded (s : State) (ev : Evaluation) (body : Fin Config.bodyCount) : List Trigger :=
  let d := s.store.activeBank.descriptor body
  if d.enabled = false ∨ ev.swapped = true then []
  else changeTriggers body (s.body body) (coveringPosition s.store.activeBank d (dayOf ev.epoch))

/-- The Notice Set after the evaluation of a body: as before for a disabled body or in a swap evaluation (R48, R54). -/
def noticesAfter (s : State) (ev : Evaluation) (body : Fin Config.bodyCount) : List Notice :=
  let bank := s.store.activeBank
  let d := bank.descriptor body
  if d.enabled = false ∨ ev.swapped = true then s.notices
  else changeNotices bank d body (s.body body) (coveringPosition bank d (dayOf ev.epoch)) s.notices

theorem evaluateOneBody_eq (s : State) (ev : Evaluation) (body : Fin Config.bodyCount) :
    evaluateOneBody s ev body =
      ({ s with notices := noticesAfter s ev body }.addTriggers (triggersAdded s ev body)).setBody body
        (recordAfter s ev body) := by
  cases enabled : (s.store.activeBank.descriptor body).enabled with
  | false => simp [evaluateOneBody, noticesAfter, triggersAdded, recordAfter, enabled, addTriggers_nil]
  | true =>
      cases swapped : ev.swapped with
      | true =>
          simp [evaluateOneBody, noticesAfter, triggersAdded, recordAfter, enabled, swapped, addTriggers_nil,
            changeTests_of_swapped]
      | false => simp [evaluateOneBody, noticesAfter, triggersAdded, recordAfter, enabled, swapped, changeTests_eq]

theorem exec_bodyEvaluation_of_due {s : State} {ev : Evaluation} {b : Fin Config.bodyCount} (inFlight : s.eval = some ev)
    (due : ev.stage = .bodies b) :
    exec .bodyEvaluation s = .next ((evaluateOneBody s ev b).setStage (Stage.afterBody b)).settle := by
  simp only [exec, execBodyEvaluation, inFlight, due]
  rfl

/-- Settles O14: the record, the triggers and the notices of one body, and what its evaluation leaves. -/
theorem bodyIsEvaluated : Obligations.BodyIsEvaluated := by
  intro s ev b inFlight due
  refine ⟨_, exec_bodyEvaluation_of_due inFlight due, ?_⟩
  rw [evaluateOneBody_eq]
  refine ⟨State.body_setBody_same _ b _, fun c other => State.body_setBody_of_ne _ b c _ other, ?_, rfl, rfl⟩
  simp only [State.setStage_eval, State.setBody_eval, State.addTriggers_eval, inFlight]
  rfl

end Sys2Proof.Machine
end

section
/-! Motion shaping: the motion laws, the position step and the limit stops, the shaping of one live axis, and the home edge capture
(R80 to R95, R111, R112, R114, R115, R121). -/

namespace Sys2Proof.Machine

/-! ## Residues and the integer root -/

/-- The reduction moves a position by a multiple of 2^48. -/
theorem reduceExt_emod (y : Int) : reduceExt y % extSpan = y % extSpan := by
  unfold reduceExt extSpan
  omega

/-- Only the residue counts: a part of a sum may be reduced beforehand. -/
theorem reduceExt_congr {y z : Int} (same : y % extSpan = z % extSpan) : reduceExt y = reduceExt z := by
  unfold reduceExt extSpan at *
  omega

/-- No other root fits: isqrt(n) is the one number whose square is the last that does not exceed n. -/
theorem isqrt_unique {n r : Nat} (lo : r * r ≤ n) (hi : n < (r + 1) * (r + 1)) : isqrt n = r := by
  obtain ⟨le, lt⟩ := isqrt_spec n
  have below : isqrt n < r + 1 := Nat.mul_self_lt_mul_self_iff.mp (Nat.lt_of_le_of_lt le hi)
  have above : r < isqrt n + 1 := Nat.mul_self_lt_mul_self_iff.mp (Nat.lt_of_le_of_lt lo lt)
  omega

/-! ## The motion laws (R84 to R89) -/

/-- The velocity that the law of the state steers to (R85 to R89). -/
def wantedVelocity (x : Axis) : Int :=
  match x.state with
  | .homing .seek => x.travel.homeVelocity
  | .tracking => trackingVelocity x
  | .off | .unhomed | .homing .settle | .homing .abandon | .holding | .halting | .faulted => 0

/-- The most by which the law of the state changes the velocity (R86 to R89). -/
def velocityChange (x : Axis) : Int := if x.state = .halting then x.travel.stopDecel else x.travel.amax

/-- Every law is one bounded step from the present velocity toward the wanted one. -/
theorem lawVelocity_eq_step {x : Axis} (live : x.state ≠ .off) :
    lawVelocity x = velocityStep x.velocity (wantedVelocity x) (velocityChange x) := by
  unfold lawVelocity wantedVelocity velocityChange
  cases state : x.state with
  | off => exact absurd state live
  | homing phase => cases phase <;> rfl
  | unhomed | holding | tracking | halting | faulted => rfl

theorem velocityStep_zero (v step : Int) : velocityStep v 0 step = v + clamp (-step) step (-v) := by
  rw [velocityStep, Int.zero_sub]

theorem velocityChange_nonneg {x : Axis} (valid : x.travel.Valid) : 0 ≤ velocityChange x := by
  obtain ⟨-, -, -, ⟨amax, -⟩, ⟨stopDecel, -⟩, -⟩ := valid
  unfold velocityChange
  split <;> omega

/-- The wanted velocity is itself within the speed limit (R86, R99). -/
theorem wantedVelocity_bound {x : Axis} (valid : x.travel.Valid) : mag (wantedVelocity x) ≤ x.travel.vmax := by
  obtain ⟨-, -, ⟨vmax, -⟩, -, -, ⟨-, home⟩, -⟩ := valid
  have rest : mag 0 ≤ x.travel.vmax := mag_le.mpr (by omega)
  have track : mag (trackingVelocity x) ≤ x.travel.vmax := mag_le.mpr (clamp_range (by omega))
  unfold wantedVelocity
  split <;> assumption

/-- Settles O23: the root in the correction is the one given, and the law is a bounded step toward the clamped velocity. -/
theorem trackingLaw : Obligations.TrackingLaw := by
  intro x r tracking _ e vmax amax ⟨lo, hi⟩ size c wanted
  have square : (0 : Int) ≤ (r : Int) * r := Int.mul_nonneg (Int.natCast_nonneg r) (Int.natCast_nonneg r)
  have root : isqrt (2 * amax * mag e).toNat = r :=
    isqrt_unique ((Int.le_toNat (Int.le_trans square lo)).mpr lo) ((Int.toNat_lt (Int.le_trans square lo)).mpr hi)
  have term : correction vmax amax e = c := by rw [correction, root]
  have desired : trackingVelocity x = wanted := by rw [trackingVelocity, term]
  rw [lawVelocity, tracking]
  show velocityStep x.velocity (trackingVelocity x) amax = _
  rw [desired, velocityStep]

/-! ## The limit stops (R93, R94) -/

theorem stopsApply_iff (state : AxisState) (homed : Bool) :
    stopsApply state homed = true ↔ homed = true ∧ (state = .tracking ∨ state = .holding) := by
  simp [stopsApply, or_comm]

theorem limitStop_above {lo hi p v : Int} (pOld : Int) (past : p > hi) (outward : v > 0) :
    limitStop lo hi pOld p v = { position := if pOld > hi then pOld else hi, velocity := 0, stopped := true } :=
  if_pos ⟨past, outward⟩

/-- The sign of the velocity keeps the two limits apart. -/
theorem limitStop_below {lo hi p v : Int} (pOld : Int) (past : p < lo) (outward : v < 0) :
    limitStop lo hi pOld p v = { position := if pOld < lo then pOld else lo, velocity := 0, stopped := true } :=
  (if_neg fun upper => absurd upper.2 (by omega)).trans (if_pos ⟨past, outward⟩)

theorem limitStop_of_inward {lo hi p v : Int} (pOld : Int) (inward : ¬((p > hi ∧ v > 0) ∨ (p < lo ∧ v < 0))) :
    limitStop lo hi pOld p v = { position := p, velocity := v, stopped := false } :=
  (if_neg fun upper => inward (.inl upper)).trans (if_neg fun lower => inward (.inr lower))

/-- The motion of an axis not subject to the stops is the law and the step (R95). -/
theorem shapeMotion_of_not_stopsApply {x : Axis} (exempt : ¬stopsApply x.state x.homed = true) :
    shapeMotion x =
      { position := stepPosition x.travel.kind x.position (lawVelocity x), velocity := lawVelocity x, stopped := false } := by
  simp [shapeMotion, exempt]

theorem shapeMotion_of_stopsApply {x : Axis} {lo hi : Int} (subject : stopsApply x.state x.homed = true)
    (limits : x.travel.stopLimits = some (lo, hi)) :
    shapeMotion x =
      limitStop lo hi x.position (stepPosition x.travel.kind x.position (lawVelocity x)) (lawVelocity x) := by
  simp [shapeMotion, subject, limits]

theorem stepPosition_of_ne_continuous {kind : AxisKind} (travels : kind ≠ .continuous) (p v : Int) :
    stepPosition kind p v = p + v := by
  cases kind with
  | continuous => exact absurd rfl travels
  | bounded | wound => rfl

/-- A limit stop leaves rest, and every other shaping the law's velocity and the step. -/
theorem shapeMotion_cases (x : Axis) :
    ((shapeMotion x).stopped = true ∧ (shapeMotion x).velocity = 0) ∨
      shapeMotion x =
        { position := stepPosition x.travel.kind x.position (lawVelocity x), velocity := lawVelocity x, stopped := false } := by
  unfold shapeMotion
  dsimp only
  split
  · unfold limitStop
    split
    · exact .inl ⟨rfl, rfl⟩
    · split
      · exact .inl ⟨rfl, rfl⟩
      · exact .inr rfl
  · exact .inr rfl

/-- Settles O25: a stop leaves rest, and else the law is a bounded step between velocities within the limit. -/
theorem shapingKeepsSpeedLimits : Obligations.ShapingKeepsSpeedLimits := by
  intro x valid speed live
  have nonneg := velocityChange_nonneg valid
  rcases shapeMotion_cases x with ⟨stopped, rest⟩ | free
  · refine ⟨?_, fun _ => rest, fun moving => ?_⟩
    · rw [rest]
      exact Int.le_trans (mag_nonneg x.velocity) speed
    · rw [stopped] at moving
      cases moving
  · rw [free, lawVelocity_eq_step live]
    exact ⟨velocityStep_between nonneg speed (wantedVelocity_bound valid), nofun, fun _ => velocityStep_bound nonneg⟩

/-- Settles O26: the stops of a subject axis at its limits, and the plain step of every other. -/
theorem limitStops : Obligations.LimitStops := by
  intro x lo hi named v p subject
  have limits : x.travel.stopLimits = some (lo, hi) := by
    rcases named with ⟨kind, rfl, rfl⟩ | ⟨kind, rfl, rfl⟩
    · simp only [Travel.stopLimits, kind]
    · simp only [Travel.stopLimits, kind]
      rfl
  have step : stepPosition x.travel.kind x.position v = p :=
    stepPosition_of_ne_continuous (by rcases named with ⟨kind, _⟩ | ⟨kind, _⟩ <;> simp [kind]) x.position v
  have motion (holds : subject) : shapeMotion x = limitStop lo hi x.position p v := by
    rw [shapeMotion_of_stopsApply ((stopsApply_iff _ _).mpr holds) limits, step]
  refine ⟨fun holds past outward => ?_, fun holds past outward => ?_, fun unstopped => ?_⟩
  · rw [motion holds, limitStop_above x.position past outward]
  · rw [motion holds, limitStop_below x.position past outward]
  · by_cases holds : subject
    · rw [motion holds, limitStop_of_inward x.position fun passed => unstopped ⟨holds, passed⟩]
    · rw [shapeMotion_of_not_stopsApply (mt (stopsApply_iff _ _).mp holds), step]

/-- Settles O24: the laws by the state, the error and the step by the kind, and the arithmetic that they use. -/
theorem otherLawsAndStep : Obligations.OtherLawsAndStep := by
  refine ⟨fun x => ⟨fun resting => ?_, fun halting => ?_, fun seeking => ?_, fun kind => ⟨?_, ?_⟩, fun kind => ?_, fun kind => ?_,
    fun kind moving => ?_⟩, fun y => ?_, fun y => rfl, fun lo hi y => rfl⟩
  · rw [← velocityStep_zero]
    rcases resting with state | state | state | state | state <;> simp only [lawVelocity, state]
  · rw [← velocityStep_zero]
    simp only [lawVelocity, halting]
  · simp only [lawVelocity, seeking, velocityStep]
  · simp only [trackingError, kind]
  · exact shapeMotion_continuous kind
  · simp only [trackingError, kind]
  · simp only [trackingError, kind]
    rfl
  · rcases shapeMotion_cases x with ⟨stopped, _⟩ | free
    · rw [stopped] at moving
      cases moving
    · rw [free]
      exact stepPosition_of_ne_continuous kind _ _
  · obtain ⟨lo, hi⟩ := wrap_range y
    exact ⟨lo, Int.le_sub_one_of_lt hi, angle_wrap y⟩

/-! ## The end of a shaping (R83, R114, R115) -/

theorem setAxis_setAxis (s : State) (a : Fin Config.axisCount) (x y : Axis) : (s.setAxis a x).setAxis a y = s.setAxis a y := by
  simp [State.setAxis, Vector.set_set]

/-- How the shaping of an axis can end, seen from what the axis has become: a halt at rest (R83), a homing settled or abandoned at rest
(R114), a search past its home span (R115). -/
abbrev Axis.Halted (y : Axis) : Prop := y.state = .halting ∧ y.velocity = 0
abbrev Axis.Settled (y : Axis) : Prop := y.state = .homing .settle ∧ y.velocity = 0
abbrev Axis.Abandoned (y : Axis) : Prop := y.state = .homing .abandon ∧ y.velocity = 0
abbrev Axis.Lost (y : Axis) : Prop := y.state = .homing .seek ∧ mag y.seekTravel > y.travel.homeSpan

section endings

variable {s : State} {a : Fin Config.axisCount} {y : Axis}

theorem endShaping_of_halted (halted : y.Halted) : endShaping s a y = (s.setAxis a { y with state := .faulted }, []) := by
  obtain ⟨state, rest⟩ := halted
  simp only [endShaping, state, rest, if_true]

theorem endShaping_of_settled (settled : y.Settled) :
    endShaping s a y =
      ((s.setAxis a { y with state := .holding, homed := true }).raise .axis a.val (.axis false y.offset),
        [{ kind := .axisEvent, index := a.val }]) := by
  obtain ⟨state, rest⟩ := settled
  simp only [endShaping, state, rest, if_true]

theorem endShaping_of_abandoned (abandoned : y.Abandoned) :
    endShaping s a y =
      ((s.setAxis a { y with state := .unhomed }).raise .axis a.val (.axis true y.offset),
        [{ kind := .axisEvent, index := a.val }]) := by
  obtain ⟨state, rest⟩ := abandoned
  simp only [endShaping, state, rest, if_true]

/-- In phase SEEK the fault cause is a fault entry, and a home not found leaves HOMED (R116). -/
theorem endShaping_of_lost (lost : y.Lost) :
    endShaping s a y =
      ((s.setAxis a { y with state := .halting, causes := [.homeNotFound] }).raise .fault a.val (.fault .homeNotFound),
        [{ kind := .axisEvent, index := a.val }]) := by
  obtain ⟨state, past⟩ := lost
  simp [endShaping, State.raiseFault, state, past, setAxis_setAxis, Cause.clearsHomed]

theorem endShaping_of_none (halted : ¬y.Halted) (settled : ¬y.Settled) (abandoned : ¬y.Abandoned) (lost : ¬y.Lost) :
    endShaping s a y = (s.setAxis a y, []) := by
  unfold endShaping
  split
  · next state => rw [if_neg fun rest => halted ⟨state, rest⟩]
  · next state => exact if_neg fun rest => settled ⟨state, rest⟩
  · next state => exact if_neg fun rest => abandoned ⟨state, rest⟩
  · next state => exact if_neg fun past => lost ⟨state, past⟩
  all_goals rfl

end endings

/-- What the end of its shaping leaves of an axis (R83, R114, R115). -/
def endedAxis (y : Axis) : Axis :=
  { y with
    state :=
      if y.Halted then .faulted
      else if y.Settled then .holding
      else if y.Abandoned then .unhomed
      else if y.Lost then .halting
      else y.state,
    homed := if y.Settled then true else y.homed, causes := if y.Lost then [.homeNotFound] else y.causes }

/-- The Notice Set after the end of a shaping (R114, R115). -/
def endedNotices (a : Fin Config.axisCount) (y : Axis) (ns : List Notice) : List Notice :=
  if y.Settled then raiseInto .axis a.val (.axis false y.offset) ns
  else if y.Abandoned then raiseInto .axis a.val (.axis true y.offset) ns
  else if y.Lost then raiseInto .fault a.val (.fault .homeNotFound) ns
  else ns

/-- The triggers of the end of a shaping (R114, R115). -/
def endedTriggers (a : Fin Config.axisCount) (y : Axis) : List Trigger :=
  if y.Settled ∨ y.Abandoned ∨ y.Lost then [{ kind := .axisEvent, index := a.val }] else []

/-- The endings exclude each other by their states, so that the tests can be made in the order of the record of the axis. -/
theorem endShaping_eq (s : State) (a : Fin Config.axisCount) (y : Axis) :
    endShaping s a y = ({ s.setAxis a (endedAxis y) with notices := endedNotices a y s.notices }, endedTriggers a y) := by
  unfold endedAxis endedNotices endedTriggers
  by_cases halted : y.Halted
  · rw [endShaping_of_halted halted]
    simp [Axis.Halted, Axis.Settled, Axis.Abandoned, Axis.Lost, halted.1, halted.2, State.setAxis]
  by_cases settled : y.Settled
  · rw [endShaping_of_settled settled]
    simp [Axis.Halted, Axis.Settled, Axis.Abandoned, Axis.Lost, settled.1, settled.2, State.raise, State.setAxis]
  by_cases abandoned : y.Abandoned
  · rw [endShaping_of_abandoned abandoned]
    simp [Axis.Halted, Axis.Settled, Axis.Abandoned, Axis.Lost, abandoned.1, abandoned.2, State.raise, State.setAxis]
  by_cases lost : y.Lost
  · rw [endShaping_of_lost lost]
    simp [Axis.Halted, Axis.Settled, Axis.Abandoned, Axis.Lost, lost.1, lost.2, State.raise, State.setAxis]
  · rw [endShaping_of_none halted settled abandoned lost]
    simp only [halted, settled, abandoned, lost, or_self, if_false]
    rfl

/-! ## The drive position and the home edge capture (R91, R101, R112, R121) -/

theorem wrapPosition_eq (kind : AxisKind) (p : Int) : wrapPosition kind p = if kind = .continuous then p else reduceExt p := by
  cases kind <;> rfl

theorem drivePosition_eq (kind : AxisKind) (p o : Int) :
    drivePosition kind p o = if kind = .continuous then angle (p + o) else reduceExt (p + o) := by
  cases kind <;> rfl

/-- A value in the range of the positions of the axis kind: an angle, or an extended position (R79, R101). -/
def inKindRange (kind : AxisKind) (v : Int) : Int := if kind = .continuous then angle v else reduceExt v

theorem captureHome_eq (x : Axis) (a : Int) :
    let o := inKindRange x.travel.kind (a - x.travel.homePosition)
    captureHome x a =
      { x with position := inKindRange x.travel.kind (x.position + x.offset - o), offset := o, state := .homing .settle } := by
  unfold captureHome inKindRange
  cases x.travel.kind <;> rfl

/-- Moving the position by the change of offset, and reducing it, keeps the drive position, whatever the new offset. -/
theorem drivePosition_moved (kind : AxisKind) (p o o' : Int) :
    drivePosition kind (inKindRange kind (p + o - o')) o' = drivePosition kind p o := by
  rw [drivePosition_eq, drivePosition_eq, inKindRange]
  split
  · unfold angle turn
    omega
  · refine reduceExt_congr ?_
    rw [Int.add_emod, reduceExt_emod, ← Int.add_emod, Int.sub_add_cancel]

/-- Settles O34: the drive position is kept whatever the offset, and the reduction keeps the residue. -/
theorem homeEdgeKeepsDrivePosition : Obligations.HomeEdgeKeepsDrivePosition := by
  refine ⟨fun x a => ?_, fun kind p o => ⟨drivePosition_eq kind p o, wrapPosition_eq kind p⟩, fun y => ?_⟩
  · have captured := captureHome_eq x a
    dsimp only at captured ⊢
    rw [captured]
    exact ⟨drivePosition_moved _ _ _ _, rfl, rfl, rfl⟩
  · obtain ⟨lo, hi⟩ := reduceExt_range y
    exact ⟨lo, Int.le_sub_one_of_lt hi, reduceExt_emod y⟩

/-! ## One live axis of the evaluation in flight (R80) -/

theorem nextLive_eq_some {s : State} {n : Nat} {a : Fin Config.axisCount} (reached : n ≤ a.val) (live : (s.axis a).state ≠ .off)
    (off : ∀ b : Fin Config.axisCount, n ≤ b.val → b.val < a.val → (s.axis b).state = .off) : s.nextLive n = some a := by
  rw [State.nextLive, allAxes, ← List.findSome?_guard,
    findSome?_eq_some_iff_of_ascending (fun below => Nat.not_lt_of_gt below) (finRange_ascending _)]
  refine ⟨a, List.mem_finRange a, by simp [Option.guard, reached, live], fun b _ below => ?_⟩
  simpa [Option.guard] using fun after => off b after below

theorem exec_axisShaping_of_due {s : State} {ev : Evaluation} {n : Nat} {a : Fin Config.axisCount} (inFlight : s.eval = some ev)
    (stage : ev.stage = .shaping n) (next : s.nextLive n = some a) :
    exec .axisShaping s = .next (shapeOneAxis s ev a).settle := by
  simp only [exec, execAxisShaping, inFlight, stage, next, done]

theorem shapeOneAxis_eq (s : State) (ev : Evaluation) (a : Fin Config.axisCount) :
    shapeOneAxis s ev a =
      { s.setAxis a (endedAxis (shapedAxis ev (s.axis a))) with
        notices := endedNotices a (shapedAxis ev (s.axis a)) s.notices,
        eval := some (ev.afterShaping a (s.axis a) (endedTriggers a (shapedAxis ev (s.axis a)))) } := by
  rw [shapeOneAxis, endShaping_eq]

theorem holdFlag_eq (state : AxisState) : holdFlag state = decide (state ≠ .tracking ∧ state ≠ .homing .seek) :=
  (Bool.decide_and _ _).symm

theorem shapedAxis_position (ev : Evaluation) (x : Axis) :
    (shapedAxis ev x).position =
      if x.travel.kind = .continuous then (shapeMotion x).position else reduceExt (shapeMotion x).position :=
  wrapPosition_eq x.travel.kind (shapeMotion x).position

/-- In phase SEEK the seek travel has grown by the velocity of the shaping (R111, R115). -/
theorem shapedAxis_lost_iff (ev : Evaluation) (x : Axis) :
    (shapedAxis ev x).Lost ↔
      x.state = .homing .seek ∧ mag (x.seekTravel + (shapeMotion x).velocity) > x.travel.homeSpan := by
  refine and_congr_right fun seek => ?_
  have grown : (shapedAxis ev x).seekTravel = x.seekTravel + (shapeMotion x).velocity := if_pos seek
  rw [grown]
  rfl

/-- Settles O22: the first live axis is the one shaped; its end by the four endings, and its record by the drive position. -/
theorem axisIsShaped : Obligations.AxisIsShaped := by
  intro s ev n a inFlight stage reached live off x m reduced position settled abandoned lost
  refine ⟨shapeOneAxis s ev a, exec_axisShaping_of_due inFlight stage (nextLive_eq_some reached live off), ?_⟩
  rw [shapeOneAxis_eq]
  refine ⟨?_, fun b other => State.axis_setAxis_of_ne s a b _ other, ?_, ?_, rfl⟩
  · refine (State.axis_setAxis_same s a _).trans ?_
    simp only [endedAxis, shapedAxis_lost_iff, shapedAxis_position]
    rfl
  · simp only [endedNotices, shapedAxis_lost_iff]
    rfl
  · simp only [Evaluation.afterShaping, endedTriggers, shapedAxis_lost_iff, setpointOf, holdFlag_eq, drivePosition_eq,
      wrapPosition_eq]
    rfl

end Sys2Proof.Machine
end

section
/-! The FEEDBACK frames and records that the Drive Supervisor takes, and the axis that a record names (R126, R151, R181). -/

namespace Sys2Proof.Machine

/-! ## The payload of a FEEDBACK frame (R181) -/

theorem beNat_slice_one (bs : List Byte) (i : Nat) : beNat (slice bs i 1) = (bs.getD i 0).toNat := by
  rw [slice, List.take_one, List.head?_drop, List.getD_eq_getElem?_getD]
  cases bs[i]? with
  | none => rfl
  | some b => exact beNat_singleton b

/-- The record count is from 1 to 4 and the payload holds the echoed cycle, the count and so many records of 8 bytes. -/
def FeedbackWellFormed (payload : List Byte) : Prop :=
  1 ≤ (payload.getD 1 0).toNat ∧ (payload.getD 1 0).toNat ≤ 4 ∧ payload.length = 2 + 8 * (payload.getD 1 0).toNat

theorem decodeFeedback_of_wellFormed {payload : List Byte} (fits : FeedbackWellFormed payload) :
    decodeFeedback payload =
      some (payload.headD 0, (chunks 8 (payload.getD 1 0).toNat (payload.drop 2)).map decodeFeedbackRecord) := by
  rw [decodeFeedback, beNat_slice_one]
  exact if_pos fits

theorem decodeFeedback_of_not_wellFormed {payload : List Byte} (malformed : ¬FeedbackWellFormed payload) :
    decodeFeedback payload = none := by
  rw [decodeFeedback, beNat_slice_one]
  exact if_neg malformed

theorem decodeFeedback_eq_none_iff (payload : List Byte) : decodeFeedback payload = none ↔ ¬FeedbackWellFormed payload :=
  ⟨fun refused fits => Option.some_ne_none _ ((decodeFeedback_of_wellFormed fits).symm.trans refused),
    decodeFeedback_of_not_wellFormed⟩

/-- The first byte of a payload that is taken is the echoed cycle, and it holds as many records as it counts (R124). -/
theorem decodeFeedback_some {payload : List Byte} {cycle : BitVec 8} {rs : List FeedbackRecord}
    (taken : decodeFeedback payload = some (cycle, rs)) :
    payload.head? = some cycle ∧ rs.length = (payload.getD 1 0).toNat := by
  have fits : FeedbackWellFormed payload := Classical.byContradiction fun malformed =>
    Option.some_ne_none _ (taken.symm.trans (decodeFeedback_of_not_wellFormed malformed))
  obtain ⟨rfl, rfl⟩ := Prod.mk.inj (Option.some.inj ((decodeFeedback_of_wellFormed fits).symm.trans taken))
  refine ⟨?_, by rw [List.length_map, chunks_length]⟩
  obtain ⟨_, _, length⟩ := fits
  cases payload with
  | nil => exact absurd length (by simp)
  | cons b rest => rfl

/-! ## The axis of a drive channel (R120, R126) -/

theorem axisOfChannel_eq_none {s : State} {node channel : Nat}
    (unmapped : node = 0 ∨ channel > 3 ∨ ∀ a, ¬((s.axis a).travel.node = node ∧ (s.axis a).travel.channel = channel)) :
    s.axisOfChannel node channel = none := by
  unfold State.axisOfChannel
  split
  · rfl
  · next named =>
      have free := (unmapped.resolve_left fun zero => named (.inl zero)).resolve_left fun high => named (.inr high)
      exact List.find?_eq_none.mpr fun a _ => by simpa using free a

/-- Distinct channels make the axis that a search finds the one that has the channel. -/
theorem axisOfChannel_eq_some {s : State} {node channel : Nat} {a : Fin Config.axisCount} (distinct : ChannelsDistinct s)
    (driven : node ≠ 0) (within : channel ≤ 3) (onNode : (s.axis a).travel.node = node)
    (onChannel : (s.axis a).travel.channel = channel) : s.axisOfChannel node channel = some a := by
  unfold State.axisOfChannel
  rw [if_neg (by omega)]
  cases found : allAxes.find? fun b =>
      decide ((s.axis b).travel.node = node) && decide ((s.axis b).travel.channel = channel) with
  | none =>
      have absent := List.find?_eq_none.mp found a (List.mem_finRange a)
      simp [onNode, onChannel] at absent
  | some b =>
      obtain ⟨sameNode, sameChannel⟩ : (s.axis b).travel.node = node ∧ (s.axis b).travel.channel = channel := by
        simpa using List.find?_some found
      rw [distinct a b (onNode ▸ driven) (onNode.trans sameNode.symm) (onChannel.trans sameChannel.symm)]

theorem takeRecord_of_unmapped {s : State} {node : Nat} {r : FeedbackRecord} (cycle : BitVec 8)
    (unmapped : s.axisOfChannel node r.channel = none) : takeRecord node cycle s r = s := by
  rw [takeRecord, unmapped]

theorem takeRecord_of_mapped {s : State} {node : Nat} {r : FeedbackRecord} {a : Fin Config.axisCount} (cycle : BitVec 8)
    (mapped : s.axisOfChannel node r.channel = some a) :
    takeRecord node cycle s r = (handleRecord s a cycle r).2.foldl handOccurrence (handleRecord s a cycle r).1 := by
  rw [takeRecord, mapped]

/-- Settles O31: the payloads that are taken, and the records that map to no axis and to their one axis. -/
theorem feedbackRecordsAreMapped : Obligations.FeedbackRecordsAreMapped := by
  intro s node cycle payload count
  refine ⟨?_, fun rs => decodeFeedback_some, fun refused => ?_, fun rs taken => ?_, fun r => ⟨fun unmapped => ?_, ?_⟩⟩
  · rw [decodeFeedback_eq_none_iff]
    unfold FeedbackWellFormed
    omega
  · rw [takeFeedback, refused]
  · rw [takeFeedback, taken]
  · exact takeRecord_of_unmapped cycle (axisOfChannel_eq_none unmapped)
  · intro a distinct driven within onNode onChannel
    exact takeRecord_of_mapped cycle (axisOfChannel_eq_some distinct driven within onNode onChannel)

end Sys2Proof.Machine
end

section
/-! The two transmitters: the choice of the next frame as a step ends, and the NOTICE and REPLY frames (R135, R162 to R164, R171,
R175 to R177, section 11.4). -/

namespace Sys2Proof.Machine

/-! ## What waits for a transmitter, and what its choice takes -/

/-- What waits for the D transmitter stands in t as in s. -/
def SameWaitingD (s t : State) : Prop := t.ring.setpoints = s.ring.setpoints ∧ t.ring.downstream = s.ring.downstream

/-- What waits for the U transmitter, and what its frames are made of, stands in t as in s. -/
def SameWaitingU (s t : State) : Prop :=
  t.ring.upstream = s.ring.upstream ∧ t.mgmt.replies = s.mgmt.replies ∧ t.mgmt.resetReply = s.mgmt.resetReply ∧
    t.notices = s.notices ∧ t.axes = s.axes

/-- In t the D transmitter has taken the first of what waits for it in s, and sends it (R162). -/
def TakesNextD (s t : State) : Prop :=
  (t.ring.dSending, t.ring.setpoints, t.ring.downstream) =
    match s.ring.setpoints, s.ring.downstream with
    | f :: later, waiting => (some (.setpoint f), later, waiting)
    | [], f :: later => (some (.forwarded f), [], later)
    | [], [] => (none, [], [])

/-- In t the U transmitter has begun the NOTICE frame of an entry of s: the entry has left the set, and the image that a SWITCH notice
sends has become the reported one (R135, R176). -/
def SendsNotice (s : State) (n : Notice) (t : State) : Prop :=
  t.ring.uSending = some (.notice (s.frameOf n)) ∧ (t.notices = s.notices.filter fun m => !m.hasKey n.kind n.index) ∧
    ∀ a : Fin Config.axisCount, t.axis a =
      if n.kind = .switch ∧ n.index = a.val then
        { s.axis a with drive := { (s.axis a).drive with reported := (s.axis a).sentImage } }
      else s.axis a

/-- In t the U transmitter has taken the first of what waits for it in s, and sends it (R163). -/
def TakesNextU (s t : State) : Prop :=
  match s.ring.upstream, s.offered true, s.mgmt.replies, s.offered false with
  | f :: later, _, _, _ =>
      t.ring.uSending = some (.forwarded f) ∧ t.ring.upstream = later ∧ t.mgmt.replies = s.mgmt.replies ∧
        t.mgmt.resetReply = s.mgmt.resetReply ∧ t.notices = s.notices ∧ t.axes = s.axes
  | [], some n, _, _ =>
      SendsNotice s n t ∧ t.ring.upstream = [] ∧ t.mgmt.replies = s.mgmt.replies ∧ t.mgmt.resetReply = s.mgmt.resetReply
  | [], none, r :: later, _ =>
      t.ring.uSending = some (.reply (replyFrame r)) ∧ t.ring.upstream = [] ∧ t.mgmt.replies = later ∧
        t.mgmt.resetReply = false ∧ t.notices = s.notices ∧ t.axes = s.axes
  | [], none, [], some n =>
      SendsNotice s n t ∧ t.ring.upstream = [] ∧ t.mgmt.replies = [] ∧ t.mgmt.resetReply = s.mgmt.resetReply
  | [], none, [], none =>
      t.ring.uSending = none ∧ t.ring.upstream = [] ∧ t.mgmt.replies = [] ∧ t.mgmt.resetReply = s.mgmt.resetReply ∧
        t.notices = s.notices ∧ t.axes = s.axes

/-! ## The D transmitter (R162) -/

theorem chooseD_takes {s : State} (idle : s.ring.dSending = none) : TakesNextD s s.chooseD := by
  unfold TakesNextD State.chooseD
  cases setpoints : s.ring.setpoints with
  | cons f later => rfl
  | nil =>
      cases downstream : s.ring.downstream with
      | cons f later => simp only [setpoints]
      | nil => simp only [idle, setpoints, downstream]

/-- The U transmitter's choice leaves the D side. -/
theorem startU_otherSide (s : State) : s.startU.ring.dSending = s.ring.dSending ∧ SameWaitingD s s.startU := by
  unfold State.startU State.chooseU
  repeat' split
  all_goals exact ⟨rfl, rfl, rfl⟩

/-! ## The U transmitter (R163, R175, R176) -/

/-- A notice carries the images of an axis where it is the SWITCH notice of that axis (R135). -/
theorem Notice.switchAxis_eq_some_iff {n : Notice} {a : Fin Config.axisCount} :
    n.switchAxis = some a ↔ n.kind = .switch ∧ n.index = a.val := by
  unfold Notice.switchAxis
  split
  · next switch => rw [indexOf_eq_some_iff]; exact (and_iff_right switch).symm
  · next other => exact ⟨nofun, fun both => absurd both.1 other⟩

theorem sendNotice_sends (s : State) (n : Notice) : SendsNotice s n (s.sendNotice n) := by
  refine ⟨rfl, rfl, fun a => ?_⟩
  simp only [← Notice.switchAxis_eq_some_iff]
  show (s.axesAfterSending n).get a = _
  unfold State.axesAfterSending
  cases n.switchAxis with
  | none => rfl
  | some b =>
      refine (State.axis_setAxis s b a _).trans ?_
      by_cases same : a = b
      · subst same; rw [if_pos rfl, if_pos rfl]
      · rw [if_neg same, if_neg fun found => same (Option.some.inj found).symm]

theorem chooseU_takes {s : State} (idle : s.ring.uSending = none) : TakesNextU s s.chooseU := by
  unfold TakesNextU State.chooseU
  cases upstream : s.ring.upstream with
  | cons f later => exact ⟨rfl, rfl, rfl, rfl, rfl, rfl⟩
  | nil =>
      cases classA : s.offered true with
      | some n => exact ⟨sendNotice_sends s n, upstream, rfl, rfl⟩
      | none =>
          cases replies : s.mgmt.replies with
          | cons r later => exact ⟨rfl, upstream, rfl, rfl, rfl, rfl⟩
          | nil =>
              cases classB : s.offered false with
              | some n => exact ⟨sendNotice_sends s n, upstream, replies, rfl⟩
              | none => exact ⟨idle, upstream, replies, rfl, rfl, rfl⟩

theorem TakesNextU.of_sameWaiting {s t u : State} (same : SameWaitingU s t) (takes : TakesNextU t u) : TakesNextU s u := by
  obtain ⟨upstream, replies, mark, notices, axes⟩ := same
  have offered (classA : Bool) : t.offered classA = s.offered classA := by rw [State.offered, State.offered, mark, notices]
  have axis (a : Fin Config.axisCount) : t.axis a = s.axis a := State.axis_congr s t axes a
  unfold TakesNextU SendsNotice State.frameOf at takes ⊢
  simp only [upstream, replies, mark, notices, axes, offered, axis] at takes
  exact takes

/-- The D transmitter's choice leaves the U side. -/
theorem startD_otherSide (s : State) : s.startD.ring.uSending = s.ring.uSending ∧ SameWaitingU s s.startD := by
  obtain ⟨mgmt, notices, axes, upstream, uSending⟩ := startD_other s
  exact ⟨uSending, upstream, by rw [mgmt], by rw [mgmt], notices, axes⟩

/-! ## The end of a step (log entry 3) -/

theorem startD_of_idle {s : State} (idle : s.ring.dSending = none) : s.startD = s.chooseD :=
  if_pos (Option.isNone_iff_eq_none.mpr idle)

theorem startD_of_busy {s : State} (busy : s.ring.dSending ≠ none) : s.startD = s :=
  if_neg fun idle => busy (Option.isNone_iff_eq_none.mp idle)

theorem startU_of_idle {s : State} (idle : s.ring.uSending = none) : s.startU = s.chooseU :=
  if_pos (Option.isNone_iff_eq_none.mpr idle)

theorem startU_of_busy {s : State} (busy : s.ring.uSending ≠ none) : s.startU = s :=
  if_neg fun idle => busy (Option.isNone_iff_eq_none.mp idle)

theorem settle_takesD {s : State} (idle : s.ring.dSending = none) : TakesNextD s s.settle := by
  obtain ⟨sending, setpoints, downstream⟩ := startU_otherSide s.startD
  unfold TakesNextD State.settle
  rw [sending, setpoints, downstream, startD_of_idle idle]
  exact chooseD_takes idle

theorem settle_restsD {s : State} (busy : s.ring.dSending ≠ none) :
    s.settle.ring.dSending = s.ring.dSending ∧ SameWaitingD s s.settle := by
  rw [State.settle, startD_of_busy busy]
  exact startU_otherSide s

theorem settle_takesU {s : State} (idle : s.ring.uSending = none) : TakesNextU s s.settle := by
  obtain ⟨sending, same⟩ := startD_otherSide s
  have still : s.startD.ring.uSending = none := sending.trans idle
  rw [State.settle, startU_of_idle still]
  exact (chooseU_takes still).of_sameWaiting same

theorem settle_restsU {s : State} (busy : s.ring.uSending ≠ none) :
    s.settle.ring.uSending = s.ring.uSending ∧ SameWaitingU s s.settle := by
  obtain ⟨sending, same⟩ := startD_otherSide s
  rw [State.settle, startU_of_busy (sending ▸ busy)]
  exact ⟨sending, same⟩

/-! ## The end of a frame (R162 to R164) -/

/-- The D transmitter's frame has ended, and it has made no choice yet. -/
def State.endFrameD (s : State) : State := { s with ring := { s.ring with dSending := none } }

/-- The U transmitter's frame has ended, a REPLY's credit has returned, and it has made no choice yet. -/
def State.endFrameU (s : State) (sending : USending) : State :=
  { s with
    ring := { s.ring with uSending := none },
    mgmt := { s.mgmt with freeCredits := s.mgmt.freeCredits + creditOf sending } }

theorem exec_dTransmitEnd_of_sending {s : State} (busy : s.ring.dSending ≠ none) :
    exec .dTransmitEnd s = .next s.endFrameD.settle := by
  obtain ⟨sending, found⟩ := Option.ne_none_iff_exists'.mp busy
  simp only [exec, execDTransmitEnd, found, done, State.endFrameD]

theorem exec_uTransmitEnd_of_sending {s : State} {sending : USending} (busy : s.ring.uSending = some sending) :
    exec .uTransmitEnd s = .next (s.endFrameU sending).settle := by
  simp only [exec, execUTransmitEnd, busy, done, State.endFrameU]

/-! ## The NOTICE frames (R135, R177, section 11.4) -/

/-- The class byte of a notice: 0 for class A, FAULT and CADENCE, and 1 for class B. -/
theorem classByte_eq (k : NoticeKind) : flagByte (!k.classA) = if k = .fault ∨ k = .cadence then 0 else 1 := by
  simp only [NoticeKind.classA_eq, ← Bool.decide_or, flagByte, Bool.not_eq_true', decide_eq_false_iff_not, ite_not]

theorem frameOf_switch (s : State) (a : Fin Config.axisCount) (count : Nat) :
    s.frameOf { kind := .switch, index := a.val, count := count, detail := .switch } =
      noticeFrame (s.axis a).sentImage (s.axis a).drive.reported
        { kind := .switch, index := a.val, count := count, detail := .switch } := by
  rw [State.frameOf, Notice.switchAxis_eq_some_iff.mpr ⟨rfl, rfl⟩]

theorem frameOf_of_ne_switch (s : State) {n : Notice} (other : n.kind ≠ .switch) :
    s.frameOf n = noticeFrame Switches.none Switches.none n := by
  rw [State.frameOf, Notice.switchAxis, if_neg other]

/-! ## The statement on the transmitters -/

/-- Settles O42: each transmitter takes the next of what waits for it where it is idle as the step ends, and else goes on. -/
theorem transmittersChooseNext : Obligations.TransmittersChooseNext := by
  intro s first
  have offered : first = s.offered := by
    funext classA
    simp only [first, State.offered, NoticeKind.classA_eq]
  clear_value first
  subst offered
  refine ⟨fun busy => ⟨_, exec_dTransmitEnd_of_sending busy, ?_⟩,
    fun sending busy => ⟨_, exec_uTransmitEnd_of_sending busy, ?_⟩,
    ⟨settle_lineOnly s, settle_requests s, settle_restsD, settle_takesD, settle_restsU, settle_takesU⟩,
    frameOf_switch s, fun n other detailed => ?_, fun r => rfl⟩
  · have ended : LineOnly s s.endFrameD := ⟨rfl, rfl, rfl, rfl, rfl, fun _ => rfl, rfl, rfl, rfl, rfl, rfl, rfl, rfl, rfl⟩
    exact ⟨ended.trans (settle_lineOnly _), settle_requests _, settle_takesD (s := s.endFrameD) rfl,
      settle_restsU (s := s.endFrameD), settle_takesU (s := s.endFrameD)⟩
  · have credits := State.settle_freeCredits (s.endFrameU sending)
    refine ⟨?_, settle_requests _, ?_, settle_takesU (s := s.endFrameU sending) rfl,
      settle_restsD (s := s.endFrameU sending), settle_takesD (s := s.endFrameU sending)⟩
    · rw [credits]
      cases sending <;> rfl
    · rw [credits]
      have ended : LineOnly { s with mgmt := (s.endFrameU sending).mgmt } (s.endFrameU sending) :=
        ⟨rfl, rfl, rfl, rfl, rfl, fun _ => rfl, rfl, rfl, rfl, rfl, rfl, rfl, rfl, rfl⟩
      exact ended.trans (settle_lineOnly _)
  · rw [frameOf_of_ne_switch s other, noticeFrame, classByte_eq]
    obtain ⟨kind, index, count, detail⟩ := n
    cases detail with
    | switch => exact absurd rfl detailed
    | _ => rfl

end Sys2Proof.Machine
end

section
/-! Watch points: which watches a shaping crosses, and what the crossing of watch B reloads (R141, R142). -/

namespace Sys2Proof.Machine

/-! ## Crossings (R141) -/

theorem watchCrossed_bounded_iff (w p q v : Int) :
    watchCrossed .bounded w p q v = true ↔ (p < w ∧ w ≤ q) ∨ (q ≤ w ∧ w < p) := by
  simp only [watchCrossed, Bool.or_eq_true, Bool.and_eq_true, decide_eq_true_eq]
  omega

/-- For less than a turn of travel, the way to an angle lies within the travel where one of its steps shows that angle. -/
theorem within_angle_iff {n : Int} (short : n < turn) (x : Int) :
    within 1 n (angle x) = true ↔ ∃ d, 1 ≤ d ∧ d ≤ n ∧ (x - d) % turn = 0 := by
  rw [within_iff]
  unfold angle turn at *
  constructor
  · exact fun ⟨lo, hi⟩ => ⟨x % 4294967296, lo, hi, by omega⟩
  · rintro ⟨d, lo, hi, shows⟩
    have way : x % 4294967296 = d := by omega
    rw [way]
    exact ⟨lo, hi⟩

theorem watchCrossed_continuous_of_pos {v : Int} (ahead : v > 0) (w p q : Int) :
    watchCrossed .continuous w p q v = within 1 v (angle (w - p)) := by
  simp [watchCrossed, ahead, Int.lt_asymm ahead]

theorem watchCrossed_continuous_of_neg {v : Int} (back : v < 0) (w p q : Int) :
    watchCrossed .continuous w p q v = within 1 (-v) (angle (p - w)) := by
  simp [watchCrossed, back, Int.lt_asymm back]

/-- A CONTINUOUS axis crosses a watch where a step of its travel, each of one tu, shows the angle of the watch. -/
theorem watchCrossed_continuous_iff {v : Int} (short : mag v < halfTurn) (w p q : Int) :
    watchCrossed .continuous w p q v = true ↔
      ∃ d : Int, 1 ≤ d ∧ d ≤ mag v ∧ w % turn = (if v > 0 then p + d else p - d) % turn := by
  have less : mag v < turn := Int.lt_trans short (by decide)
  rcases Int.lt_trichotomy v 0 with back | rfl | ahead
  · have size : mag v = -v := if_pos back
    rw [size] at less ⊢
    rw [watchCrossed_continuous_of_neg back, within_angle_iff less]
    refine exists_congr fun d => and_congr_right fun _ => and_congr_right fun _ => ?_
    rw [if_neg (Int.lt_asymm back)]
    unfold turn
    omega
  · refine iff_of_false (by simp [watchCrossed]) fun ⟨d, lo, hi, _⟩ => ?_
    have none : d ≤ 0 := hi
    omega
  · have size : mag v = v := if_neg (Int.lt_asymm ahead)
    rw [size] at less ⊢
    rw [watchCrossed_continuous_of_pos ahead, within_angle_iff less]
    refine exists_congr fun d => and_congr_right fun _ => and_congr_right fun _ => ?_
    rw [if_pos ahead]
    unfold turn
    omega

theorem watchFires_iff (ev : Evaluation) (x : Axis) (m : Motion) (w : Watch) :
    watchFires ev x m w = true ↔
      w.enabled = true ∧ ev.epochSet = false ∧ watchCrossed x.travel.kind w.value x.position m.position m.velocity = true := by
  simp [watchFires, and_assoc]

/-! ## The reload (R142) -/

theorem Watch.reload_of_loaded {w : Watch} {v : Int} (loaded : w.next = some v) :
    w.reload = { value := v, enabled := true, next := none } := by
  simp only [Watch.reload, loaded]

theorem Watch.reload_of_empty {w : Watch} (empty : w.next = none) : w.reload = w := by
  simp only [Watch.reload, empty]

theorem reloadWatches_false (t : Target) : reloadWatches t false = t := rfl
theorem reloadWatches_true_watchA (t : Target) : (reloadWatches t true).watchA = t.watchA.reload := rfl
theorem reloadWatches_true_watchB (t : Target) : (reloadWatches t true).watchB = t.watchB.reload := rfl

/-- Settles O27: a crossing by the kind of travel, the reload of each watch by its buffer, and the watches that are tested. -/
theorem watchCrossings : Obligations.WatchCrossings := by
  refine ⟨fun w p q v => ⟨watchCrossed_bounded_iff w p q v, rfl, fun short => watchCrossed_continuous_iff short w p q⟩,
    fun t => ⟨reloadWatches_false t, ?_, ?_⟩, watchFires_iff⟩
  · rw [reloadWatches_true_watchA]
    split
    · next loaded => exact Watch.reload_of_loaded loaded
    · next empty => exact Watch.reload_of_empty empty
  · rw [reloadWatches_true_watchB]
    split
    · next loaded => exact Watch.reload_of_loaded loaded
    · next empty => exact Watch.reload_of_empty empty

end Sys2Proof.Machine

end

section
/-! The Cue Engine after each reset, what each cue action does, and the firing of a channel (R153 to R157). -/

namespace Sys2Proof.Machine

/-! ## The two resets (R157) -/

theorem channel_powerOnState (s : State) (c : Fin Config.channelCount) : (powerOnState s).channel c = Channel.reset := by
  simp [State.channel, powerOnState, State.reset, Cues.reset, State.get_eq]

theorem channel_softResetState (s : State) (r : Request) (c : Fin Config.channelCount) :
    (softResetState s r).channel c = (s.channel c).softReset := by
  simp [State.channel, softResetState, State.get_eq]

/-- The end of a step leaves the channels and the Cue List. -/
theorem settle_channel (s : State) (c : Fin Config.channelCount) : s.settle.channel c = s.channel c := by simp [State.channel]
theorem settle_cueEntry (s : State) (i : Nat) : s.settle.cueEntry i = s.cueEntry i := by simp [State.cueEntry]

/-- Settles O6: the power-on values, and the soft reset's, which the end of the step leaves. -/
theorem cuesAfterResets : Obligations.CuesAfterResets := by
  refine fun s c => ⟨⟨_, rfl, ?_, fun i => ?_, ?_⟩, fun r rest head code bare => ⟨fun busy => ?_, fun idle => ?_⟩⟩
  · rw [State.settle_cues]
    rfl
  · rw [settle_cueEntry]
    rfl
  · rw [settle_channel, channel_powerOnState]
    rfl
  · exact execute_held (by simpa [State.inFlight, Option.isSome_iff_ne_none] using busy)
  · refine ⟨_, exec_softReset_of_idle head code bare idle, ?_, fun i => ?_, ?_⟩
    · rw [State.settle_cues]
      rfl
    · rw [settle_cueEntry]
      rfl
    · rw [settle_channel, State.channel_answer, channel_softResetState]
      rfl

/-! ## What the actions test (R9, R60, R108, R139) -/

theorem sourceAccepted_iff (axis : Nat) (kind : SourceKind) (index : Nat) :
    sourceAccepted axis kind index = true ↔
      ¬(((kind = .bodyLongitude ∨ kind = .bodyLatitude) ∧ index ≥ 12) ∨ (kind = .follow ∧ index ≥ axis)) := by
  cases kind <;> simp [sourceAccepted, within_iff]
  all_goals omega

/-- The index of a source that uses none is recorded as 0 (log entry 17). -/
theorem sourceIndex_eq (kind : SourceKind) (index : Nat) :
    sourceIndex kind index = if kind = .linear ∨ kind = .siteLatitude ∨ kind = .fixed then 0 else index := by
  cases kind <;> simp [sourceIndex]

theorem positionInRange_iff (kind : AxisKind) (v : Int) :
    positionInRange kind v = true ↔ if kind = .continuous then 0 ≤ v ∧ v ≤ turn - 1 else -extHalf ≤ v ∧ v ≤ extHalf - 1 := by
  cases kind <;> simp [positionInRange, within_iff]

/-- A position outside the limits in which R108 allows TRACK. -/
def Travel.Outside (t : Travel) (p : Int) : Prop :=
  (t.kind = .bounded ∧ (p < t.softLow ∨ p > t.softHigh)) ∨ (t.kind = .wound ∧ (p < -(t.wind * turn) ∨ p > t.wind * turn))

theorem inLimits_iff_not_outside (t : Travel) (p : Int) : t.inLimits p = true ↔ ¬t.Outside p := by
  rw [inLimits_iff]
  unfold Travel.Outside
  cases t.kind <;> simp

/-! ## TRACK and STOP (R108, R109) -/

theorem setAxis_axis_self (s : State) (a : Fin Config.axisCount) : s.setAxis a (s.axis a) = s := by
  simp [State.setAxis, State.axis, State.get_eq]

section axisCommands

variable {s : State} {a : Fin Config.axisCount}

theorem trackAxis_of_tracking (state : (s.axis a).state = .tracking) : trackAxis s a = acceptCommand s a (s.axis a) := by
  simp only [trackAxis, state]

theorem trackAxis_of_holding (state : (s.axis a).state = .holding) (inside : ¬(s.axis a).travel.Outside (s.axis a).position) :
    trackAxis s a = acceptCommand s a { s.axis a with state := .tracking, suppress := true } := by
  simp only [trackAxis, state, (inLimits_iff_not_outside _ _).mpr inside, if_true]

theorem trackAxis_of_outside (state : (s.axis a).state = .holding) (outside : (s.axis a).travel.Outside (s.axis a).position) :
    trackAxis s a = refuse s .range := by
  have beyond : ¬(s.axis a).travel.inLimits (s.axis a).position = true := fun inside =>
    (inLimits_iff_not_outside _ _).mp inside outside
  simp only [trackAxis, state, beyond, Bool.false_eq_true, if_false]

theorem trackAxis_of_other (tracking : (s.axis a).state ≠ .tracking) (holding : (s.axis a).state ≠ .holding) :
    trackAxis s a = refuse s .state := by
  cases state : (s.axis a).state with
  | tracking => exact absurd state tracking
  | holding => exact absurd state holding
  | _ => simp only [trackAxis, state]

theorem stopAxis_of_tracking (state : (s.axis a).state = .tracking) :
    stopAxis s a = acceptCommand s a { s.axis a with state := .holding } := by
  simp only [stopAxis, state]

theorem stopAxis_of_seek (state : (s.axis a).state = .homing .seek) :
    stopAxis s a = acceptCommand s a { s.axis a with state := .homing .abandon } := by
  simp only [stopAxis, state]

theorem stopAxis_of_other (tracking : (s.axis a).state ≠ .tracking) (seek : (s.axis a).state ≠ .homing .seek) :
    stopAxis s a = acceptCommand s a (s.axis a) := by
  cases state : (s.axis a).state with
  | tracking => exact absurd state tracking
  | homing phase =>
      cases phase with
      | seek => exact absurd state seek
      | _ => simp only [stopAxis, state]
  | _ => simp only [stopAxis, state]

end axisCommands

/-! ## The actions (R155, R156) -/

section actions

variable {s : State} {firing : Fin Config.channelCount} {a : Fin Config.axisCount}

/-- AXIS_STATE does what the axis command that it names does, and is refused where that is. -/
theorem runAction_track_of_accepted {x : Axis} (accepted : trackAxis s a = acceptCommand s a x) :
    runAction s firing (.axisState a false) = some (s.setAxis a x) := by
  simp [runAction, accepted, acceptCommand, accept]

theorem runAction_track_of_refused {code : ReplyCode} (refused : trackAxis s a = refuse s code) (failed : code ≠ .ok) :
    runAction s firing (.axisState a false) = none := by
  simp [runAction, refused, refuse, failed]

theorem runAction_stop_of_accepted {x : Axis} (accepted : stopAxis s a = acceptCommand s a x) :
    runAction s firing (.axisState a true) = some (s.setAxis a x) := by
  simp [runAction, accepted, acceptCommand, accept]

theorem runAction_axisSource (k : SourceKind) (i : Nat) :
    runAction s firing (.axisSource a k i) =
      if ((k = .bodyLongitude ∨ k = .bodyLatitude) ∧ i ≥ 12) ∨ (k = .follow ∧ i ≥ a.val) then none
      else
        some (writeTarget s a
          { (s.axis a).target with
            source := k, index := if k = .linear ∨ k = .siteLatitude ∨ k = .fixed then 0 else i }) := by
  simp only [runAction, sourceAccepted_iff, sourceIndex_eq, ite_not]

theorem runAction_clockRate (qt slew : Int) :
    runAction s firing (.clockRate qt slew) =
      if mag qt ≤ rateLimit ∧ 1 ≤ slew ∧ slew ≤ rateLimit then some (s.writeRate qt slew) else none := by
  simp only [runAction, rateAccepted_iff]

theorem runAction_epochWatchSet (day : Int) (enable : Bool) :
    runAction s firing (.epochWatchSet day enable) =
      if -dayLimit ≤ day ∧ day ≤ dayLimit then some (s.writeEpochWatch day enable) else none := by
  simp only [runAction, within_iff]

theorem runAction_watchLoad_of_inRange {v : Int} (b n : Bool) (inRange : positionInRange (s.axis a).travel.kind v = true) :
    runAction s firing (.watchLoad a b n v) =
      some (s.setAxis a
        { s.axis a with
          target :=
            if b then { (s.axis a).target with watchB := (s.axis a).target.watchB.load n v }
            else { (s.axis a).target with watchA := (s.axis a).target.watchA.load n v } }) :=
  if_pos inRange

theorem runAction_watchLoad_of_outOfRange {v : Int} (b n : Bool) (out : positionInRange (s.axis a).travel.kind v = false) :
    runAction s firing (.watchLoad a b n v) = none :=
  if_neg (Bool.eq_false_iff.mp out)

/-- In COUNTED mode the arming of a channel loads its count (R147). -/
theorem Channel.arm_eq (c : Channel) :
    c.arm =
      { c with
        armed := true, cursor := c.listStart, remaining := if c.mode = .counted then c.count else c.remaining } := by
  unfold Channel.arm
  cases c.mode <;> rfl

theorem runAction_channelArm_of_defined {d : Fin Config.channelCount} (isDefined : (s.channel d).defined = true) :
    runAction s firing (.channelArm d) = some (s.setChannel d (s.channel d).arm) :=
  if_pos isDefined

theorem runAction_channelArm_of_undefined {d : Fin Config.channelCount} (undefined : (s.channel d).defined = false) :
    runAction s firing (.channelArm d) = none :=
  if_neg (Bool.eq_false_iff.mp undefined)

end actions

/-- Settles O38: each action by the lemma on what it tests, AXIS_STATE by those on TRACK and STOP. -/
theorem cueActionsTakeEffect : Obligations.CueActionsTakeEffect := by
  intro s c a x outside
  refine ⟨rfl, fun v => rfl, fun v => rfl, runAction_axisSource,
    ⟨fun tracking => ?_, fun holding beyond => ?_, fun holding inside => ?_, fun tracking holding => ?_⟩,
    ⟨fun tracking => ?_, fun seek => ?_, fun tracking seek => ?_⟩,
    runAction_clockRate, runAction_epochWatchSet, fun v inRange => ?_, fun b n v => runAction_watchLoad_of_outOfRange b n,
    positionInRange_iff x.travel.kind, fun d isDefined => ?_, fun d => runAction_channelArm_of_undefined, fun d => rfl,
    fun code => rfl⟩
  · rw [runAction_track_of_accepted (trackAxis_of_tracking tracking), setAxis_axis_self]
  · exact runAction_track_of_refused (trackAxis_of_outside holding beyond) nofun
  · exact runAction_track_of_accepted (trackAxis_of_holding holding inside)
  · exact runAction_track_of_refused (trackAxis_of_other tracking holding) nofun
  · exact runAction_stop_of_accepted (stopAxis_of_tracking tracking)
  · exact runAction_stop_of_accepted (stopAxis_of_seek seek)
  · rw [runAction_stop_of_accepted (stopAxis_of_other tracking seek), setAxis_axis_self]
  · exact ⟨runAction_watchLoad_of_inRange false false inRange, runAction_watchLoad_of_inRange true false inRange,
      runAction_watchLoad_of_inRange false true inRange, runAction_watchLoad_of_inRange true true inRange⟩
  · rw [runAction_channelArm_of_defined isDefined, Channel.arm_eq]

/-! ## A firing (R153, R154, R156) -/

theorem namesItself_iff (action : CueAction) (c : Fin Config.channelCount) :
    action.namesItself c = true ↔ action = .channelArm c ∨ action = .channelDisarm c := by
  cases action <;> simp [CueAction.namesItself]

/-- What the action at the cursor of the firing channel leaves, executed or refused. -/
def acted (s : State) (c : Fin Config.channelCount) : State :=
  match runAction s c (s.cueEntry (s.channel c).cursor) with
  | some t => t
  | none => s.raise .cue c.val (.cueRefused (s.channel c).cursor (s.cueEntry (s.channel c).cursor).code)

theorem fire_eq (s : State) (c : Fin Config.channelCount) :
    fire s c =
      if (s.cueEntry (s.channel c).cursor).namesItself c then acted s c else stepChannel (acted s c) c := rfl

/-- An action writes no channel but the one that it arms or disarms. -/
theorem runAction_channel {s t : State} {firing d : Fin Config.channelCount} {action : CueAction}
    (runs : runAction s firing action = some t) (arms : action ≠ .channelArm d) (disarms : action ≠ .channelDisarm d) :
    t.channel d = s.channel d := by
  cases action with
  | none =>
      obtain rfl := Option.some.inj runs
      rfl
  | axisSource a k index =>
      obtain ⟨_, rfl⟩ := passed_of_guarded runs
      rfl
  | axisOffset a v =>
      obtain rfl := Option.some.inj runs
      rfl
  | axisScale a v =>
      obtain rfl := Option.some.inj runs
      rfl
  | axisState a stop =>
      cases stop with
      | true =>
          obtain ⟨_, rfl⟩ := passed_of_guarded (u := (stopAxis s a).state) runs
          rw [stopAxis_frame]
          rfl
      | false =>
          obtain ⟨_, rfl⟩ := passed_of_guarded (u := (trackAxis s a).state) runs
          rw [trackAxis_frame]
          rfl
  | clockRate qt slew =>
      obtain ⟨_, rfl⟩ := passed_of_guarded runs
      rfl
  | watchLoad a watchB buffer v =>
      obtain ⟨_, rfl⟩ := passed_of_guarded runs
      rfl
  | epochWatchSet day enable =>
      obtain ⟨_, rfl⟩ := passed_of_guarded runs
      rfl
  | channelArm e =>
      obtain ⟨_, rfl⟩ := passed_of_guarded runs
      exact State.channel_setChannel_of_ne s e d _ fun same => arms (same ▸ rfl)
  | channelDisarm e =>
      obtain rfl := Option.some.inj runs
      exact State.channel_setChannel_of_ne s e d _ fun same => disarms (same ▸ rfl)
  | note code =>
      obtain rfl := Option.some.inj runs
      rfl

/-- The firing channel itself is as before when its turn to step comes. -/
theorem acted_channel {s : State} {c : Fin Config.channelCount} (arms : s.cueEntry (s.channel c).cursor ≠ .channelArm c)
    (disarms : s.cueEntry (s.channel c).cursor ≠ .channelDisarm c) : (acted s c).channel c = s.channel c := by
  unfold acted
  split
  · next runs => exact runAction_channel runs arms disarms
  · rfl

theorem acted_of_run {s t : State} {c : Fin Config.channelCount} {action : CueAction}
    (entry : s.cueEntry (s.channel c).cursor = action) (runs : runAction s c action = some t) : acted s c = t := by
  simp only [acted, entry, runs]

theorem Channel.step_eq (c : Channel) :
    c.step =
      { c with
        cursor := c.movedCursor, remaining := if c.mode = .counted then c.remaining - 1 else c.remaining,
        armed := if c.mode = .counted ∧ c.remaining - 1 = 0 then false else c.armed } := by
  cases mode : c.mode with
  | continuous =>
      rw [Channel.step_of_continuous mode]
      simp [mode]
  | counted =>
      rw [Channel.step_of_counted mode]
      by_cases last : c.remaining - 1 = 0 <;> simp [mode, last]

theorem Channel.exhausts_iff (c : Channel) : c.exhausts = true ↔ c.mode = .counted ∧ c.remaining - 1 = 0 := by
  simp [Channel.exhausts]

theorem stepChannel_eq (s : State) (c : Fin Config.channelCount) :
    stepChannel s c =
      { s.setChannel c (s.channel c).step with
        notices :=
          if (s.channel c).mode = .counted ∧ (s.channel c).remaining - 1 = 0 then raiseInto .cue c.val .cueExhausted s.notices
          else s.notices } := by
  unfold stepChannel
  simp only [Channel.exhausts_iff]
  split <;> rfl

theorem stepChannel_channel (s : State) (c : Fin Config.channelCount) : (stepChannel s c).channel c = (s.channel c).step := by
  rw [stepChannel_eq]
  exact State.channel_setChannel_same s c _

theorem channel_setChannel (s : State) (c d : Fin Config.channelCount) (y : Channel) :
    (s.setChannel c y).channel d = if d = c then y else s.channel d := by
  split
  · next same => rw [same, State.channel_setChannel_same]
  · next apart => exact State.channel_setChannel_of_ne s c d y apart

/-- Settles O37: the firing of a channel by whether its action names the channel itself. -/
theorem firingStepsChannel : Obligations.FiringStepsChannel := by
  refine ⟨fun s c y => ⟨fun d => channel_setChannel s c d y, rfl⟩, fun s c => ?_⟩
  intro x action executed stepped
  have left : acted s c = executed := rfl
  have fires := fire_eq s c
  refine ⟨fun arms disarms => ?_, fun itself => ?_, fun disarms => ?_, fun arms isDefined => ?_⟩
  · have apart : ¬action.namesItself c = true := by
      rw [namesItself_iff, not_or]
      exact ⟨arms, disarms⟩
    have channel : (acted s c).channel c = x := acted_channel arms disarms
    have steps : x.step = stepped := Channel.step_eq x
    rw [if_neg apart] at fires
    rw [fires]
    refine ⟨?_, ?_⟩
    · rw [stepChannel_channel, channel, steps]
    · rw [stepChannel_eq, channel, steps, left]
  · rwa [if_pos ((namesItself_iff _ _).mpr itself)] at fires
  · rw [if_pos ((namesItself_iff _ _).mpr (.inr disarms)), acted_of_run disarms rfl] at fires
    rw [fires]
    exact State.channel_setChannel_same s c _
  · rw [if_pos ((namesItself_iff _ _).mpr (.inl arms)), acted_of_run arms (runAction_channelArm_of_defined isDefined)] at fires
    rw [fires, State.channel_setChannel_same]
    exact Channel.arm_eq x

end Sys2Proof.Machine

end

section
/-! The records of chapter 11: frames, axis items, FEEDBACK records and Cue List entries, read back from their bytes
(R149, R180 to R184). -/

namespace Sys2Proof.Machine

/-! ## Fields at the front of a record -/

theorem slice_cons_succ (b : Byte) (bs : List Byte) (i k : Nat) : slice (b :: bs) (i + 1) k = slice bs i k := rfl

theorem beNat_slice_first (b : Byte) (bs : List Byte) : beNat (slice (b :: bs) 0 1) = b.toNat := beNat_slice_one (b :: bs) 0

/-- A first byte that holds a number below the count names it, and one that does not names nothing. -/
theorem indexOf_first {n : Nat} (small : n ≤ 256) (i : Fin n) (bs : List Byte) :
    indexOf n (beNat (slice (codeByte i.val :: bs) 0 1)) = some i := by
  rw [beNat_slice_first, codeByte_fin_toNat small, indexOf_val]

theorem indexOf_first_none {n : Nat} {b : Byte} (high : n ≤ b.toNat) (bs : List Byte) :
    indexOf n (beNat (slice (b :: bs) 0 1)) = none := by
  rw [beNat_slice_first]
  exact dif_neg (Nat.not_lt.mpr high)

theorem length_flatMap_of_length {α : Type} {enc : α → List Byte} {k : Nat} (length : ∀ x, (enc x).length = k) (xs : List α) :
    (xs.flatMap enc).length = k * xs.length := by
  rw [List.length_flatMap, List.map_congr_left fun x _ => length x, List.map_const', List.sum_replicate_nat, Nat.mul_comm]

/-! ## Frames (R180) -/

theorem natBytes_two (n : Nat) : natBytes 2 n = [codeByte (n / 256), codeByte n] := rfl

/-- The bytes that the check of a frame of the part's own covers. -/
def coveredBytes (kind : Byte) (node : Nat) (payload : List Byte) : List Byte :=
  [kind, codeByte node] ++ natBytes 2 payload.length ++ payload

section frames

variable (kind : Byte) (node : Nat) (payload : List Byte)

theorem encodeFrame_eq :
    encodeFrame kind node payload =
      coveredBytes kind node payload ++ natBytes 2 (checkOf (coveredBytes kind node payload)).toNat := rfl

theorem encodeFrame_length : (encodeFrame kind node payload).length = 6 + payload.length := by
  simp [encodeFrame_eq, coveredBytes]
  omega

theorem frameKind_encodeFrame : frameKind (encodeFrame kind node payload) = kind := rfl

theorem frameNode_encodeFrame {node : Nat} (small : node < 256) : frameNode (encodeFrame kind node payload) = node :=
  codeByte_toNat small

theorem frameLength_encodeFrame {payload : List Byte} (fits : payload.length < 65536) :
    frameLength (encodeFrame kind node payload) = payload.length :=
  beNat_natBytes_of_lt (k := 2) fits

theorem framePayload_encodeFrame : framePayload (encodeFrame kind node payload) = payload := by
  have tail (check : List Byte) : (coveredBytes kind node payload ++ check).drop 4 = payload ++ check := rfl
  rw [framePayload, encodeFrame_eq, tail, natBytes_two]
  simp

theorem checkFails_encodeFrame : checkFails (encodeFrame kind node payload) = false := by
  have check : natBytes 2 (checkOf (coveredBytes kind node payload)).toNat =
      (encodeFrame kind node payload).drop (coveredBytes kind node payload).length := by
    rw [encodeFrame_eq, List.drop_left]
  have covered : (encodeFrame kind node payload).length - 2 = (coveredBytes kind node payload).length := by
    simp [encodeFrame_eq]
  rw [checkFails, covered, ← check, beNat_natBytes_of_lt (BitVec.isLt _), encodeFrame_eq, List.take_left]
  simp

theorem lengthFails_encodeFrame {payload : List Byte} (fits : payload.length ≤ 1024) :
    lengthFails (encodeFrame kind node payload) = false := by
  simp only [lengthFails, frameLength_encodeFrame kind node (by omega : payload.length < 65536), encodeFrame_length,
    Bool.or_eq_false_iff, decide_eq_false_iff_not]
  omega

end frames

/-! ## Axis items (R183) -/

theorem decodeItem_encodeItem {e : Nat × Int} (fits : ItemFits e) : decodeItem (encodeItem e.1 e.2) = e := by
  obtain ⟨small, lo, hi⟩ := fits
  have value : beInt (slice (encodeItem e.1 e.2) 1 8) = e.2 := by
    rw [encodeItem, slice_cons_succ, slice_zero_of_length (intBytes_length 8 e.2)]
    exact beInt_intBytes (by decide) (by omega) (by omega)
  rw [decodeItem, value, encodeItem, beNat_slice_first, codeByte_toNat small]

/-! ## FEEDBACK records (R124, R181) -/

theorem Switches.bits_eq (i : Switches) :
    i.bits = (if i.home then 1 else 0) + (if i.low then 2 else 0) + (if i.high then 4 else 0) := by
  obtain ⟨home, low, high⟩ := i
  cases home <;> cases low <;> cases high <;> rfl

/-- A FEEDBACK record's second byte: the switch image, the fault bit, and four bits without a meaning. -/
def statusByte (i : Switches) (fault : Bool) (unused : Nat) : Byte := codeByte (i.bits + (if fault then 8 else 0) + 16 * unused)

/-- The four bits with a meaning are those of the image and the fault bit alone. -/
theorem statusByte_getLsbD {j : Nat} (low : j < 4) (i : Switches) (fault : Bool) (unused : Nat) :
    (statusByte i fault unused).getLsbD j = (i.bits + if fault then 8 else 0).testBit j := by
  have small : i.bits + (if fault then 8 else 0) < 2 ^ 4 := by
    rw [Switches.bits_eq]
    repeat' split
    all_goals decide
  have inByte : j < 8 := by omega
  rw [statusByte, codeByte, BitVec.getLsbD_ofNat, Nat.add_comm, Nat.testBit_two_pow_mul_add unused small]
  simp [inByte, low]

theorem statusByte_reads (i : Switches) (fault : Bool) (unused : Nat) :
    switchesOf (statusByte i fault unused) = i ∧ (statusByte i fault unused).getLsbD 3 = fault := by
  have bits : ∀ home low high fault : Bool,
      let n := Switches.bits { home, low, high } + if fault then 8 else 0
      n.testBit 0 = home ∧ n.testBit 1 = low ∧ n.testBit 2 = high ∧ n.testBit 3 = fault := by decide
  obtain ⟨home, low, high, isFault⟩ := bits i.home i.low i.high fault
  simp (disch := decide) only [switchesOf, statusByte_getLsbD]
  exact ⟨congr (congr (congrArg Switches.mk home) low) high, isFault⟩

/-- A FEEDBACK record as its 8 bytes (section 11.2). -/
def feedbackBytes (unused : Nat) (r : FeedbackRecord) : List Byte :=
  [codeByte r.channel, statusByte r.switches r.fault unused] ++ intBytes 6 r.actual

theorem decodeFeedbackRecord_feedbackBytes {r : FeedbackRecord} (unused : Nat) (small : r.channel < 256)
    (lo : -extHalf ≤ r.actual) (hi : r.actual < extHalf) : decodeFeedbackRecord (feedbackBytes unused r) = r := by
  obtain ⟨switches, fault⟩ := statusByte_reads r.switches r.fault unused
  unfold extHalf at lo hi
  have actual : beInt (slice (feedbackBytes unused r) 2 6) = r.actual := by
    rw [feedbackBytes, slice_append_last (i := 2) rfl (intBytes_length 6 r.actual)]
    exact beInt_intBytes (by decide) (by omega) (by omega)
  have channel : beNat (slice (feedbackBytes unused r) 0 1) = r.channel := (beNat_slice_first _ _).trans (codeByte_toNat small)
  have status : (feedbackBytes unused r).getD 1 0 = statusByte r.switches r.fault unused := rfl
  rw [decodeFeedbackRecord, actual, channel, status, switches, fault]

theorem decodeFeedback_feedbackBytes {rs : List FeedbackRecord} (cycle : Byte) (unused : Nat) (nonempty : rs ≠ [])
    (four : rs.length ≤ 4) (fits : ∀ r ∈ rs, r.channel < 256 ∧ -extHalf ≤ r.actual ∧ r.actual < extHalf) :
    decodeFeedback (cycle :: codeByte rs.length :: rs.flatMap (feedbackBytes unused)) = some (cycle, rs) := by
  have positive := List.length_pos_iff.mpr nonempty
  have eight (r : FeedbackRecord) : (feedbackBytes unused r).length = 8 := by simp [feedbackBytes]
  have count : ((cycle :: codeByte rs.length :: rs.flatMap (feedbackBytes unused)).getD 1 0).toNat = rs.length :=
    codeByte_toNat (by omega)
  have length := length_flatMap_of_length eight rs
  have wellFormed : FeedbackWellFormed (cycle :: codeByte rs.length :: rs.flatMap (feedbackBytes unused)) := by
    rw [FeedbackWellFormed, count, List.length_cons, List.length_cons, length]
    omega
  have records : (chunks 8 rs.length (rs.flatMap (feedbackBytes unused))).map decodeFeedbackRecord = rs := by
    rw [chunks_flatMap _ 8 eight, List.map_map]
    refine (List.map_congr_left fun r among => ?_).trans (List.map_id rs)
    obtain ⟨small, lo, hi⟩ := fits r among
    exact decodeFeedbackRecord_feedbackBytes unused small lo hi
  rw [decodeFeedback_of_wellFormed wellFormed, count]
  exact congrArg (fun rs => some (cycle, rs)) records

/-! ## Cue List entries, action by action (R149, section 11.3.3) -/

section entries

variable (bs : List Byte)

theorem decodeCue_none : decodeCue (0 :: bs) = some .none := rfl

theorem decodeCue_axisSource :
    decodeCue (1 :: bs) =
      (sourceKindOf (beNat (slice bs 1 1))).bind fun k =>
        (indexOf Config.axisCount (beNat (slice bs 0 1))).map fun a => .axisSource a k (beNat (slice bs 2 1)) := by
  have action : beNat (slice (1 :: bs) 0 1) = 1 := rfl
  unfold decodeCue
  simp only [action, slice_cons_succ]
  cases sourceKindOf (beNat (slice bs 1 1)) <;> rfl

theorem decodeCue_axisOffset :
    decodeCue (2 :: bs) =
      (indexOf Config.axisCount (beNat (slice bs 0 1))).map fun a => .axisOffset a (BitVec.ofNat 32 (beNat (slice bs 1 4))) := rfl

theorem decodeCue_axisScale :
    decodeCue (3 :: bs) =
      (indexOf Config.axisCount (beNat (slice bs 0 1))).map fun a => .axisScale a (beInt (slice bs 1 4)) := rfl

theorem decodeCue_axisState :
    decodeCue (4 :: bs) =
      if beNat (slice bs 1 1) < 2 then
        (indexOf Config.axisCount (beNat (slice bs 0 1))).map fun a => .axisState a (decide (beNat (slice bs 1 1) = 1))
      else none := rfl

theorem decodeCue_clockRate :
    decodeCue (5 :: bs) = some (.clockRate (beInt (slice bs 0 6)) (beNat (slice bs 6 6))) := rfl

theorem decodeCue_watchLoad :
    decodeCue (6 :: bs) =
      if beNat (slice bs 1 1) < 4 then
        (indexOf Config.axisCount (beNat (slice bs 0 1))).map fun a =>
          .watchLoad a (decide (beNat (slice bs 1 1) % 2 = 1)) (decide (beNat (slice bs 1 1) / 2 = 1)) (beInt (slice bs 2 6))
      else none := rfl

theorem decodeCue_epochWatchSet :
    decodeCue (7 :: bs) =
      if beNat (slice bs 4 1) < 2 then some (.epochWatchSet (beInt (slice bs 0 4)) (decide (beNat (slice bs 4 1) = 1)))
      else none := rfl

theorem decodeCue_channelArm :
    decodeCue (8 :: bs) = (indexOf Config.channelCount (beNat (slice bs 0 1))).map .channelArm := rfl

theorem decodeCue_channelDisarm :
    decodeCue (9 :: bs) = (indexOf Config.channelCount (beNat (slice bs 0 1))).map .channelDisarm := rfl

theorem decodeCue_note : decodeCue (10 :: bs) = some (.note (beNat (slice bs 0 1))) := rfl

theorem decodeCue_unnamed {action : Byte} (unnamed : 10 < action.toNat) : decodeCue (action :: bs) = none := by
  obtain ⟨k, code⟩ := Nat.exists_eq_add_of_le' unnamed
  have code : action.toNat = k + 11 := code
  simp only [decodeCue, beNat_slice_first, code]

end entries

/-! ## Cue List entries read back, and entries refused (R149, R184) -/

theorem sourceKindOf_code (k : SourceKind) : sourceKindOf k.code = some k := by cases k <;> rfl

theorem sourceKindOf_none {n : Nat} (high : 5 < n) : sourceKindOf n = none := by
  rw [sourceKindOf, if_neg (by omega), if_neg (by omega), if_neg (by omega), if_neg (by omega), if_neg (by omega),
    if_neg (by omega)]

theorem flagByte_decide_eq_one (b : Bool) : decide ((flagByte b).toNat = 1) = b := by cases b <;> rfl

theorem flagByte_lt_two (b : Bool) : (flagByte b).toNat < 2 := by cases b <;> decide

section readBack

variable (a : Fin Config.axisCount) (c : Fin Config.channelCount) (pad : List Byte)

theorem indexOf_axisByte (bs : List Byte) : indexOf Config.axisCount (beNat (slice (codeByte a.val :: bs) 0 1)) = some a :=
  indexOf_first (by decide) a bs

theorem decodeCue_axisSource_bytes (k : SourceKind) (i : Byte) :
    decodeCue (1 :: codeByte a.val :: codeByte k.code :: i :: pad) = some (.axisSource a k i.toNat) := by
  have kind : (codeByte k.code).toNat = k.code := codeByte_toNat (by cases k <;> decide)
  rw [decodeCue_axisSource, indexOf_axisByte]
  simp only [slice_cons_succ, beNat_slice_first, kind, sourceKindOf_code, Option.bind_some, Option.map_some]

theorem decodeCue_axisOffset_bytes (v : BitVec 32) :
    decodeCue (2 :: codeByte a.val :: (natBytes 4 v.toNat ++ pad)) = some (.axisOffset a v) := by
  have value : beNat (natBytes 4 v.toNat) = v.toNat := beNat_natBytes_of_lt v.isLt
  rw [decodeCue_axisOffset, indexOf_axisByte, slice_cons_succ, slice_append_left (natBytes_length 4 _), value,
    BitVec.ofNat_toNat, BitVec.setWidth_eq, Option.map_some]

theorem decodeCue_axisScale_bytes {v : Int} (lo : -halfTurn ≤ v) (hi : v < halfTurn) :
    decodeCue (3 :: codeByte a.val :: (intBytes 4 v ++ pad)) = some (.axisScale a v) := by
  rw [decodeCue_axisScale, indexOf_axisByte, slice_cons_succ, slice_append_left (intBytes_length 4 v),
    beInt_intBytes_four lo hi, Option.map_some]

theorem decodeCue_axisState_bytes (stop : Bool) :
    decodeCue (4 :: codeByte a.val :: flagByte stop :: pad) = some (.axisState a stop) := by
  rw [decodeCue_axisState, indexOf_axisByte, slice_cons_succ, beNat_slice_first, if_pos (flagByte_lt_two stop),
    flagByte_decide_eq_one, Option.map_some]

theorem beInt_intBytes_six {x : Int} (lo : -extHalf ≤ x) (hi : x < extHalf) : beInt (intBytes 6 x) = x := by
  unfold extHalf at lo hi
  exact beInt_intBytes (by decide) (by omega) (by omega)

theorem decodeCue_clockRate_bytes {qt slew : Int} (lo : -extHalf ≤ qt) (hi : qt < extHalf) (loSlew : 0 ≤ slew)
    (hiSlew : slew < extSpan) : decodeCue (5 :: (intBytes 6 qt ++ (intBytes 6 slew ++ pad))) = some (.clockRate qt slew) := by
  have second : slice (intBytes 6 qt ++ (intBytes 6 slew ++ pad)) 6 6 = intBytes 6 slew :=
    (slice_append_right (j := 0) (intBytes_length 6 qt)).trans (slice_append_left (intBytes_length 6 slew))
  have value : (beNat (intBytes 6 slew) : Int) = slew := beNat_intBytes loSlew hiSlew
  rw [decodeCue_clockRate, slice_append_left (intBytes_length 6 qt), second, beInt_intBytes_six lo hi, value]

theorem decodeCue_watchLoad_bytes (b n : Bool) {v : Int} (lo : -extHalf ≤ v) (hi : v < extHalf) :
    decodeCue (6 :: codeByte a.val :: codeByte (b.toNat + 2 * n.toNat) :: (intBytes 6 v ++ pad)) = some (.watchLoad a b n v) := by
  have selector : ∀ b n : Bool, let k := (codeByte (b.toNat + 2 * n.toNat)).toNat
      k < 4 ∧ decide (k % 2 = 1) = b ∧ decide (k / 2 = 1) = n := by decide
  obtain ⟨small, watch, buffer⟩ := selector b n
  rw [decodeCue_watchLoad, indexOf_axisByte]
  simp only [slice_cons_succ, beNat_slice_first, slice_append_left (intBytes_length 6 v), if_pos small, watch, buffer,
    beInt_intBytes_six lo hi, Option.map_some]

theorem slice_after_day (day : Int) (bs : List Byte) : slice (intBytes 4 day ++ bs) 4 1 = slice bs 0 1 :=
  slice_append_right (j := 0) (intBytes_length 4 day)

theorem decodeCue_epochWatchSet_bytes {day : Int} (lo : -halfTurn ≤ day) (hi : day < halfTurn) (enable : Bool) :
    decodeCue (7 :: (intBytes 4 day ++ flagByte enable :: pad)) = some (.epochWatchSet day enable) := by
  rw [decodeCue_epochWatchSet, slice_after_day, beNat_slice_first, if_pos (flagByte_lt_two enable),
    flagByte_decide_eq_one, slice_append_left (intBytes_length 4 day), beInt_intBytes_four lo hi]

theorem decodeCue_channelArm_bytes : decodeCue (8 :: codeByte c.val :: pad) = some (.channelArm c) := by
  rw [decodeCue_channelArm, indexOf_first (by decide), Option.map_some]

theorem decodeCue_channelDisarm_bytes : decodeCue (9 :: codeByte c.val :: pad) = some (.channelDisarm c) := by
  rw [decodeCue_channelDisarm, indexOf_first (by decide), Option.map_some]

theorem decodeCue_note_bytes (code : Byte) : decodeCue (10 :: code :: pad) = some (.note code.toNat) := by
  rw [decodeCue_note, beNat_slice_first]

theorem decodeCue_refuses_source (axis : Byte) {kind : Byte} (high : 5 < kind.toNat) :
    decodeCue (1 :: axis :: kind :: pad) = none := by
  rw [decodeCue_axisSource, slice_cons_succ, beNat_slice_first, sourceKindOf_none high, Option.bind_none]

theorem decodeCue_refuses_command (axis : Byte) {command : Byte} (high : 1 < command.toNat) :
    decodeCue (4 :: axis :: command :: pad) = none := by
  rw [decodeCue_axisState, slice_cons_succ, beNat_slice_first, if_neg (Nat.not_lt.mpr high)]

theorem decodeCue_refuses_selector (axis : Byte) {selector : Byte} (high : 3 < selector.toNat) :
    decodeCue (6 :: axis :: selector :: pad) = none := by
  rw [decodeCue_watchLoad, slice_cons_succ, beNat_slice_first, if_neg (Nat.not_lt.mpr high)]

theorem decodeCue_refuses_enable (day : Int) {enable : Byte} (high : 1 < enable.toNat) :
    decodeCue (7 :: (intBytes 4 day ++ enable :: pad)) = none := by
  rw [decodeCue_epochWatchSet, slice_after_day, beNat_slice_first, if_neg (Nat.not_lt.mpr high)]

theorem decodeCue_refuses_axis {action b : Byte} (named : action ∈ ([1, 2, 3, 4, 6] : List Byte)) (high : 24 ≤ b.toNat) :
    decodeCue (action :: b :: pad) = none := by
  have noAxis : indexOf Config.axisCount (beNat (slice (b :: pad) 0 1)) = none := indexOf_first_none high pad
  simp only [List.mem_cons, List.not_mem_nil, or_false] at named
  rcases named with rfl | rfl | rfl | rfl | rfl
  · simp only [decodeCue_axisSource, noAxis, Option.map_none, Option.bind_fun_none]
  · rw [decodeCue_axisOffset, noAxis, Option.map_none]
  · rw [decodeCue_axisScale, noAxis, Option.map_none]
  · rw [decodeCue_axisState, noAxis, Option.map_none, ite_self]
  · rw [decodeCue_watchLoad, noAxis, Option.map_none, ite_self]

theorem decodeCue_refuses_channel {action b : Byte} (named : action ∈ ([8, 9] : List Byte)) (high : 8 ≤ b.toNat) :
    decodeCue (action :: b :: pad) = none := by
  have noChannel : indexOf Config.channelCount (beNat (slice (b :: pad) 0 1)) = none := indexOf_first_none high pad
  simp only [List.mem_cons, List.not_mem_nil, or_false] at named
  rcases named with rfl | rfl
  · rw [decodeCue_channelArm, noChannel, Option.map_none]
  · rw [decodeCue_channelDisarm, noChannel, Option.map_none]

end readBack

/-! ## The statement on the records -/

theorem encodeFrame_reads_back (kind : Byte) {node : Nat} {payload : List Byte} (small : node < 256)
    (fits : payload.length ≤ 1024) :
    Checked (encodeFrame kind node payload) ∧ frameKind (encodeFrame kind node payload) = kind ∧
      frameNode (encodeFrame kind node payload) = node ∧ framePayload (encodeFrame kind node payload) = payload :=
  ⟨⟨checkFails_encodeFrame kind node payload, lengthFails_encodeFrame kind node fits⟩, frameKind_encodeFrame kind node payload,
    frameNode_encodeFrame kind payload small, framePayload_encodeFrame kind node payload⟩

theorem beInt_intBytes_of_fits {k : Nat} {x : Int} (positive : 1 ≤ k) (lo : -(256 ^ k : Nat) ≤ 2 * x) (hi : 2 * x < (256 ^ k : Nat)) :
    beInt (intBytes k x) = x := by
  have even : 256 ^ k = 2 * (256 ^ k / 2) := by
    obtain ⟨j, rfl⟩ := Nat.exists_eq_add_of_le' positive
    rw [Nat.pow_succ]
    omega
  refine beInt_intBytes (Nat.one_le_iff_ne_zero.mp positive) ?_ ?_
  all_goals
    generalize 256 ^ k = span at *
    omega

/-- Settles O52: each layout by its definition, each record by the lemma that reads it back, and the codes one after another. -/
theorem recordsReadBack : Obligations.RecordsReadBack := by
  refine ⟨fun kind node payload small fits => ?_,
    fun k n x => ⟨rfl, rfl, rfl, BitVec.toNat_ofNat n 8, beNat_natBytes k n⟩,
    fun k x => beInt_intBytes_of_fits, fun _ => rfl, fun _ => rfl, fun _ _ => rfl,
    fun _ => decodeSegment_encodeSegment, fun _ => decodeDescriptor_encodeDescriptor, fun _ => decodeItem_encodeItem,
    fun cycle unused rs => decodeFeedback_feedbackBytes cycle unused, Switches.bits_eq, fun a c pad => ?_,
    fun a c k i v x y p q => rfl, rfl, rfl, rfl, rfl, rfl, rfl, rfl, rfl, rfl, rfl, rfl, fun day side => rfl, rfl, rfl, rfl, rfl,
    rfl, rfl, rfl⟩
  · obtain ⟨checked, readKind, readNode, readPayload⟩ := encodeFrame_reads_back kind small fits
    exact ⟨checked, readKind, readNode, readPayload, encodeFrame_eq kind node payload⟩
  · exact ⟨decodeCue_none pad, decodeCue_axisSource_bytes a pad, fun axis _ => decodeCue_refuses_source pad axis,
      fun axis _ => decodeCue_refuses_command pad axis, fun axis _ => decodeCue_refuses_selector pad axis,
      fun day _ => decodeCue_refuses_enable pad day, decodeCue_axisOffset_bytes a pad,
      fun v => decodeCue_axisScale_bytes a pad, decodeCue_axisState_bytes a pad, fun qt slew => decodeCue_clockRate_bytes pad,
      fun b n v => decodeCue_watchLoad_bytes a pad b n, fun day enable lo hi => decodeCue_epochWatchSet_bytes pad lo hi enable,
      decodeCue_channelArm_bytes c pad, decodeCue_channelDisarm_bytes c pad, decodeCue_note_bytes pad,
      fun action => decodeCue_unnamed pad, fun action b => decodeCue_refuses_axis pad,
      fun action b => decodeCue_refuses_channel pad⟩

end Sys2Proof.Machine

end

section
/-! The requests on the Cue List and on the cue channels (R145 to R149, R184). -/

namespace Sys2Proof.Machine

/-! ## WRITE_CUES (R149) -/

theorem chunks_flatten {k : Nat} {entries : List (List Byte)} (length : ∀ e ∈ entries, e.length = k) :
    chunks k entries.length entries.flatten = entries := by
  induction entries with
  | nil => rfl
  | cons e rest ih =>
      obtain ⟨first, later⟩ := List.forall_mem_cons.mp length
      rw [List.length_cons, chunks, List.flatten_cons, List.take_left' first, List.drop_left' first, ih later]

theorem length_flatten_of_length {k : Nat} {entries : List (List Byte)} (length : ∀ e ∈ entries, e.length = k) :
    entries.flatten.length = k * entries.length := by
  rw [List.length_flatten, List.map_congr_left length, List.map_const', List.sum_replicate_nat, Nat.mul_comm]

theorem decodeCues_cons (e : List Byte) (rest : List (List Byte)) :
    decodeCues (e :: rest) = (decodeCue e).bind fun a => (decodeCues rest).map (a :: ·) := by
  rw [decodeCues]
  cases decodeCue e <;> cases decodeCues rest <;> rfl

/-- Entries are accepted together, or refused for one of them. -/
theorem decodeCues_of_map {entries : List (List Byte)} {actions : List CueAction}
    (decoded : entries.map decodeCue = actions.map some) : decodeCues entries = some actions := by
  induction entries generalizing actions with
  | nil =>
      obtain rfl := List.map_eq_nil_iff.mp decoded.symm
      rfl
  | cons e rest ih =>
      cases actions with
      | nil => cases decoded
      | cons a later =>
          obtain ⟨first, tail⟩ := List.cons.inj decoded
          rw [decodeCues_cons, first, ih tail, Option.bind_some, Option.map_some]

theorem decodeCues_of_refused {entries : List (List Byte)} (refused : none ∈ entries.map decodeCue) :
    decodeCues entries = none := by
  induction entries with
  | nil => cases refused
  | cons e rest ih =>
      rw [decodeCues_cons]
      rcases List.mem_cons.mp refused with first | later
      · rw [← first, Option.bind_none]
      · simp only [ih later, Option.map_none, Option.bind_fun_none]

theorem runWriteCues_of_length {r : Request} (s : State) (length : r.args.length ≠ 2 + 13 * (r.args.getD 1 0).toNat) :
    runWriteCues r s = refuse s .range := by
  rw [← beNat_slice_one] at length
  exact if_pos (.inl length)

section writeCues

variable {r : Request} {first : Nat} {entries : List (List Byte)}

/-- What a WRITE_CUES of whole entries reads from its payload. -/
theorem writeCues_fields (slot : first < 256) (batch : entries.length < 256) (whole : ∀ e ∈ entries, e.length = cueBytes)
    (args : r.args = codeByte first :: codeByte entries.length :: entries.flatten) :
    beNat (slice r.args 0 1) = first ∧ beNat (slice r.args 1 1) = entries.length ∧
      r.args.length = 2 + cueBytes * entries.length ∧ chunks cueBytes entries.length (r.args.drop 2) = entries := by
  rw [args]
  refine ⟨?_, ?_, ?_, chunks_flatten whole⟩
  · rw [beNat_slice_first, codeByte_toNat slot]
  · rw [slice_cons_succ, beNat_slice_first, codeByte_toNat batch]
  · rw [List.length_cons, List.length_cons, length_flatten_of_length whole, Nat.add_comm 2]

theorem runWriteCues_accepts {actions : List CueAction} (s : State) (slot : first < 256)
    (whole : ∀ e ∈ entries, e.length = cueBytes)
    (args : r.args = codeByte first :: codeByte entries.length :: entries.flatten) (nonempty : entries ≠ [])
    (batch : entries.length ≤ 32) (inside : first + entries.length ≤ 256) (decoded : decodeCues entries = some actions) :
    runWriteCues r s =
      accept { s with cues := { s.cues with list := Slots.writeAll CueAction.none s.cues.list first actions } } [] := by
  have positive := List.length_pos_iff.mpr nonempty
  obtain ⟨start, count, length, records⟩ := writeCues_fields slot (by omega) whole args
  unfold runWriteCues
  simp only [start, count, records, decoded]
  refine if_neg ?_
  unfold Config.cueBatch Config.cueCount
  omega

theorem runWriteCues_refuses (s : State) (slot : first < 256) (short : entries.length < 256)
    (whole : ∀ e ∈ entries, e.length = cueBytes)
    (args : r.args = codeByte first :: codeByte entries.length :: entries.flatten)
    (wrong : entries = [] ∨ entries.length > 32 ∨ first + entries.length > 256 ∨ none ∈ entries.map decodeCue) :
    runWriteCues r s = refuse s .range := by
  obtain ⟨start, count, length, records⟩ := writeCues_fields slot short whole args
  unfold runWriteCues
  simp only [start, count, records]
  rcases wrong with empty | many | past | refused
  · exact if_pos (.inr (.inl (List.length_eq_zero_iff.mpr empty)))
  · exact if_pos (.inr (.inr (.inl many)))
  · exact if_pos (.inr (.inr (.inr past)))
  · simp only [decodeCues_of_refused refused, ite_self]

end writeCues

/-! ## The channel that a request names (R148, log entry 10) -/

section named

variable {run : Request → State → Fin Config.channelCount → Answer} {r : Request} {s : State}

theorem onChannel_of_named {c : Fin Config.channelCount} (named : r.args.head? = some (codeByte c.val)) :
    onChannel run r s = run r s c := by
  obtain ⟨rest, args⟩ := List.head?_eq_some_iff.mp named
  simp only [onChannel, args, codeByte_fin_toNat (by decide : Config.channelCount ≤ 256), indexOf_val]

theorem onChannel_of_unnamed (unnamed : ∀ c : Fin Config.channelCount, r.args.head? ≠ some (codeByte c.val)) :
    onChannel run r s = refuse s .range := by
  unfold onChannel
  split
  · rfl
  next b rest args =>
  split
  · rfl
  next c found =>
  refine absurd ?_ (unnamed c)
  rw [args, ← indexOf_eq_some_iff.mp found, codeByte_of_toNat]
  rfl

variable {i : Instr} {code : Byte} {rest : List Request}

theorem answers_of_named {c : Fin Config.channelCount} {u : State} {result : ReplyCode} {content : List Byte}
    (arm : exec i s = execute (hasCode code) false (onChannel run) s) (head : s.mgmt.requests = r :: rest)
    (own : r.code = code) (named : r.args.head? = some (codeByte c.val))
    (runs : run r s c = { state := u, result := result, content := content }) : Answers i s r u result content :=
  answers_of_run arm head own rfl ((onChannel_of_named named).trans runs)

theorem answers_of_unnamed (arm : exec i s = execute (hasCode code) false (onChannel run) s)
    (head : s.mgmt.requests = r :: rest) (own : r.code = code)
    (unnamed : ∀ c : Fin Config.channelCount, r.args.head? ≠ some (codeByte c.val)) : Answers i s r s .range [] :=
  answers_of_refuse arm head own rfl (onChannel_of_unnamed unnamed)

end named

/-- The record that a reply carries after the channel is written is the one written (R148). -/
theorem channelAnswer_setChannel (s : State) (c : Fin Config.channelCount) (x : Channel) (code : ReplyCode) :
    channelAnswer (s.setChannel c x) c code =
      { state := s.setChannel c x, result := code, content := channelRecord c x } := by
  rw [channelAnswer, State.channel_setChannel_same]

/-! ## WRITE_CHANNEL (R146) -/

theorem triggerKindOf_code (k : TriggerKind) : triggerKindOf k.code = some k := by cases k <;> rfl

theorem eq_code_of_triggerKindOf {n : Nat} {k : TriggerKind} (names : triggerKindOf n = some k) : n = k.code := by
  unfold triggerKindOf at names
  split at names <;> cases names <;> rfl

/-- The payload is the definition x of channel c, with n in its count field. -/
def DefinesChannel (args : List Byte) (c : Fin Config.channelCount) (n : Nat) (x : Channel) : Prop :=
  x.armed = false ∧ x.defined = true ∧ x.trigger.index < x.trigger.kind.indexes ∧ n < 256 ∧
    ((x.mode = .counted ∧ 1 ≤ n ∧ x.count = n) ∨ (x.mode = .continuous ∧ x.count = 0)) ∧ x.remaining = 0 ∧
    x.listStart ≤ x.listEnd ∧ x.listEnd < 256 ∧ x.cursor = x.listStart ∧
    args =
      [codeByte c.val, codeByte x.trigger.kind.code, codeByte x.trigger.index, codeByte x.mode.code, codeByte n,
        codeByte x.listStart, codeByte x.listEnd, flagByte x.advance]

theorem DefinesChannel.named {args : List Byte} {c : Fin Config.channelCount} {n : Nat} {x : Channel}
    (defines : DefinesChannel args c n x) : args.head? = some (codeByte c.val) := by
  obtain ⟨_, _, _, _, _, _, _, _, _, rfl⟩ := defines
  rfl

theorem indexes_le (k : TriggerKind) : k.indexes ≤ 24 := by cases k <;> decide
theorem triggerKind_code_lt (k : TriggerKind) : k.code < 256 := by cases k <;> decide
theorem channelMode_code_lt (m : ChannelMode) : m.code < 2 := by cases m <;> decide

theorem decodeChannel_of_defines {args : List Byte} {c : Fin Config.channelCount} {n : Nat} {x : Channel}
    (defines : DefinesChannel args c n x) : decodeChannel args = some x := by
  obtain ⟨armed, isDefined, ⟨kind, index⟩, mode, count, remaining, start, finish, cursor, advance⟩ := x
  simp only [DefinesChannel] at defines
  obtain ⟨rfl, rfl, inKind, small, counts, rfl, order, last, atStart, rfl⟩ := defines
  obtain rfl : start = cursor := atStart.symm
  have few := indexes_le kind
  have modeSmall := channelMode_code_lt mode
  have numbers :
      [codeByte c.val, codeByte kind.code, codeByte index, codeByte mode.code, codeByte n, codeByte start, codeByte finish,
        flagByte advance].map BitVec.toNat = [c.val, kind.code, index, mode.code, n, start, finish, advance.toNat] := by
    simp only [List.map_cons, List.map_nil, codeByte_fin_toNat (by decide : Config.channelCount ≤ 256),
      codeByte_toNat (triggerKind_code_lt kind), codeByte_toNat (by omega : index < 256),
      codeByte_toNat (by omega : mode.code < 256), codeByte_toNat small, codeByte_toNat (by omega : start < 256),
      codeByte_toNat last, flagByte_toNat]
  have flag : decide (advance.toNat = 1) = advance := by cases advance <;> rfl
  simp only [decodeChannel, numbers, triggerKindOf_code, flag]
  rcases counts with ⟨rfl, positive, rfl⟩ | ⟨rfl, rfl⟩
  · exact if_pos ⟨inKind, modeSmall, .inr positive, order, Bool.toNat_lt advance⟩
  · exact if_pos ⟨inKind, modeSmall, .inl rfl, order, Bool.toNat_lt advance⟩

theorem defines_of_decodeChannel {args : List Byte} {c : Fin Config.channelCount} {x : Channel}
    (named : args.head? = some (codeByte c.val)) (decoded : decodeChannel args = some x) : ∃ n, DefinesChannel args c n x := by
  unfold decodeChannel at decoded
  split at decoded
  case h_2 => cases decoded
  case h_1 number kind index mode count first last advance numbers =>
    have bytes : args = [number, kind, index, mode, count, first, last, advance].map codeByte := by
      rw [← numbers, List.map_map]
      exact (List.map_id args).symm.trans (List.map_congr_left fun b _ => (codeByte_of_toNat b).symm)
    have small : ∀ n ∈ [number, kind, index, mode, count, first, last, advance], n < 256 := by
      rw [← numbers, List.forall_mem_map]
      exact fun b _ => b.isLt
    split at decoded
    case h_1 => cases decoded
    case h_2 k kindNamed =>
      obtain ⟨⟨inKind, modes, counts, order, flags⟩, rfl⟩ := passed_of_guarded decoded
      have number : codeByte number = codeByte c.val := by
        rw [bytes] at named
        exact Option.some.inj named
      have flag : codeByte advance = flagByte (decide (advance = 1)) := by
        have zeroOrOne : advance = 0 ∨ advance = 1 := by omega
        rcases zeroOrOne with rfl | rfl <;> rfl
      have zeroOrOne : mode = 0 ∨ mode = 1 := by omega
      refine ⟨count, rfl, rfl, inKind, small count (by simp), ?_, rfl, order, small last (by simp), rfl, ?_⟩
      · rcases zeroOrOne with rfl | rfl
        · exact .inl ⟨rfl, by omega, rfl⟩
        · exact .inr ⟨rfl, rfl⟩
      · have modeByte : mode = (if mode = 0 then ChannelMode.counted else .continuous).code := by
          rcases zeroOrOne with rfl | rfl <;> rfl
        rw [bytes]
        simp only [List.map_cons, List.map_nil, number, eq_code_of_triggerKindOf kindNamed, flag, ← modeByte]

section channelRequests

variable {r : Request} {s : State} {c : Fin Config.channelCount}

theorem writeChannel_of_armed {x : Channel} (decoded : decodeChannel r.args = some x) (armed : (s.channel c).armed = true) :
    writeChannel r s c = channelAnswer s c .state := by
  simp only [writeChannel, decoded, armed, if_true]

theorem writeChannel_of_idle {x : Channel} (decoded : decodeChannel r.args = some x) (idle : (s.channel c).armed = false) :
    writeChannel r s c = channelAnswer (s.setChannel c x) c .ok := by
  simp only [writeChannel, decoded, idle, Bool.false_eq_true, if_false]

theorem writeChannel_of_undefining (named : r.args.head? = some (codeByte c.val)) (undefining : ∀ n x, ¬DefinesChannel r.args c n x) :
    writeChannel r s c = channelAnswer s c .range := by
  unfold writeChannel
  split
  · rfl
  · next x decoded =>
      obtain ⟨n, defines⟩ := defines_of_decodeChannel named decoded
      exact absurd defines (undefining n x)

/-! ## ARM_CHANNEL and DISARM_CHANNEL (R147, R148) -/

theorem armChannel_of_length (length : r.args.length ≠ 1) : armChannel r s c = channelAnswer s c .range := if_pos length

theorem armChannel_of_defined (length : r.args.length = 1) (isDefined : (s.channel c).defined = true) :
    armChannel r s c = channelAnswer (s.setChannel c (s.channel c).arm) c .ok :=
  (if_neg fun wrong => wrong length).trans (if_pos isDefined)

theorem armChannel_of_undefined (length : r.args.length = 1) (undefined : (s.channel c).defined = false) :
    armChannel r s c = channelAnswer s c .state :=
  (if_neg fun wrong => wrong length).trans (if_neg (Bool.eq_false_iff.mp undefined))

theorem disarmChannel_of_length (length : r.args.length ≠ 1) : disarmChannel r s c = channelAnswer s c .range := if_pos length

theorem disarmChannel_of_one (length : r.args.length = 1) :
    disarmChannel r s c = channelAnswer (s.setChannel c (s.channel c).disarm) c .ok :=
  if_neg fun wrong => wrong length

end channelRequests

/-! ## The statement on the requests -/

/-- Settles O47: each request on the payloads that its rule accepts, on those that it refuses, and on those that name no channel. -/
theorem cueRequests : Obligations.CueRequests := by
  refine ⟨rfl, rfl, rfl, fun s r rest head => ?_⟩
  intro record defines
  refine ⟨fun code length => ?_, fun code first entries slot short whole args => ⟨?_, fun wrong => ?_⟩,
    fun code => ⟨fun c n x is => ⟨fun armed => ?_, fun idle => ?_⟩, fun c named undefining => ?_, fun unnamed => ?_⟩,
    fun code => ⟨fun c args => ⟨fun isDefined => ?_, fun undefined => ?_⟩, fun c named length => ?_, fun unnamed => ?_⟩,
    fun code => ⟨fun c args => ?_, fun c named length => ?_, fun unnamed => ?_⟩⟩
  · exact answers_of_refuse rfl head code rfl (runWriteCues_of_length s length)
  · intro actions nonempty batch inside decoded canonical
    have lengths : entries.length = actions.length := by simpa using congrArg List.length decoded
    refine ⟨_, answers_of_accept rfl head code rfl
      (runWriteCues_accepts s slot whole args nonempty batch inside (decodeCues_of_map decoded)), fun i => ?_, rfl⟩
    rw [lengths]
    exact Slots.read_writeAll_eq CueAction.none canonical first i actions
  · exact answers_of_refuse rfl head code rfl (runWriteCues_refuses s slot short whole args wrong)
  · have defines : DefinesChannel r.args c n x := is
    exact answers_of_named rfl head code defines.named (writeChannel_of_armed (decodeChannel_of_defines defines) armed)
  · have defines : DefinesChannel r.args c n x := is
    have runs := writeChannel_of_idle (decodeChannel_of_defines defines) idle
    rw [channelAnswer_setChannel] at runs
    exact answers_of_named rfl head code defines.named runs
  · exact answers_of_named rfl head code named (writeChannel_of_undefining named undefining)
  · exact answers_of_unnamed rfl head code unnamed
  · have runs := armChannel_of_defined (r := r) (congrArg List.length args) isDefined
    rw [channelAnswer_setChannel, Channel.arm_eq] at runs
    exact answers_of_named rfl head code (congrArg List.head? args) runs
  · exact answers_of_named rfl head code (congrArg List.head? args)
      (armChannel_of_undefined (congrArg List.length args) undefined)
  · exact answers_of_named rfl head code named (armChannel_of_length length)
  · exact answers_of_unnamed rfl head code unnamed
  · have runs := disarmChannel_of_one (r := r) (s := s) (c := c) (congrArg List.length args)
    rw [channelAnswer_setChannel] at runs
    exact answers_of_named rfl head code (congrArg List.head? args) runs
  · exact answers_of_named rfl head code named (disarmChannel_of_length length)
  · exact answers_of_unnamed rfl head code unnamed

end Sys2Proof.Machine

end

section
/-! The operations and the requests' rules that leave the Ring Interface, the Management Unit and the queue of commands as they
stand. -/

namespace Sys2Proof.Machine

/-! ## Operations that leave the ports as they stand -/

/-- The Ring Interface, the Management Unit and the queue of commands stand in t as in s. -/
structure SamePorts (s t : State) : Prop where
  ring : t.ring = s.ring
  mgmt : t.mgmt = s.mgmt
  pending : t.pending = s.pending

namespace SamePorts

variable {s t u : State}

theorem refl (s : State) : SamePorts s s := ⟨rfl, rfl, rfl⟩

theorem trans (first : SamePorts s t) (second : SamePorts t u) : SamePorts s u :=
  ⟨second.ring.trans first.ring, second.mgmt.trans first.mgmt, second.pending.trans first.pending⟩

/-- A change of axes and notices alone. -/
theorem of_axes {axes : Vector Axis Config.axisCount} {notices : List Notice}
    (frame : t = { s with axes := axes, notices := notices }) : SamePorts s t := by
  rw [frame]
  exact ⟨rfl, rfl, rfl⟩

/-- A servicing writes the clock, the axes, the Cue Engine and the Notice Set alone. -/
theorem of_cueStep (step : CueStep s t) : SamePorts s t := by
  rw [step.frame]
  exact ⟨rfl, rfl, rfl⟩

end SamePorts

/-! ## Syncs, FEEDBACK and the stages of an evaluation -/

theorem takeSync_samePorts (s : State) : SamePorts s (takeSync s) := by
  rw [takeSync_frame]
  exact ⟨rfl, rfl, rfl⟩

theorem cadenceStep_samePorts (s : State) : SamePorts s (cadenceStep s) := by
  rw [cadenceStep_eq]
  exact ⟨rfl, rfl, rfl⟩

theorem externalSync_samePorts (s : State) : SamePorts s (externalSync s) :=
  (cadenceStep_samePorts s).trans (takeSync_samePorts _)

theorem service_samePorts (s : State) (t : Trigger) : SamePorts s (service s t) := .of_cueStep (service_cueStep s t)

theorem handOccurrence_samePorts (s : State) (t : Trigger) : SamePorts s (handOccurrence s t) := by
  unfold handOccurrence
  split
  · split <;> exact ⟨rfl, rfl, rfl⟩
  · exact service_samePorts s t

theorem takeRecord_samePorts (node : Nat) (cycle : BitVec 8) (s : State) (r : FeedbackRecord) :
    SamePorts s (takeRecord node cycle s r) := by
  unfold takeRecord
  split
  · exact .refl s
  · next a _ =>
      have handled : SamePorts s (handleRecord s a cycle r).1 := .of_axes (handleRecord_step s a cycle r).frame
      exact List.foldlRecOn _ _ handled fun u same t _ => same.trans (handOccurrence_samePorts u t)

theorem takeFeedback_samePorts (s : State) (node : Nat) (payload : List Byte) : SamePorts s (takeFeedback s node payload) := by
  unfold takeFeedback
  split
  · exact .refl s
  · exact List.foldlRecOn _ _ (.refl s) fun u same r _ => same.trans (takeRecord_samePorts node _ u r)

theorem evaluateOneBody_samePorts (s : State) (ev : Evaluation) (body : Fin Config.bodyCount) :
    SamePorts s (evaluateOneBody s ev body) := by
  rw [evaluateOneBody_frame]
  exact ⟨rfl, rfl, rfl⟩

theorem shapeOneAxis_samePorts (s : State) (ev : Evaluation) (a : Fin Config.axisCount) :
    SamePorts s (shapeOneAxis s ev a) := by
  have ended : SamePorts s (endShaping s a (shapedAxis ev (s.axis a))).1 := .of_axes (endShaping_frame s a _)
  exact ⟨ended.ring, ended.mgmt, ended.pending⟩

theorem completeIfServiced_samePorts (s : State) : SamePorts s s.completeIfServiced := by
  rw [completeIfServiced_frame]
  exact ⟨rfl, rfl, rfl⟩

/-! ## The requests that leave the ports as they stand -/

section requests

variable (r : Request) (s : State)

theorem runSetEpoch_samePorts : SamePorts s (runSetEpoch r s).state := by
  unfold runSetEpoch
  dsimp only
  split <;> exact ⟨rfl, rfl, rfl⟩

theorem runSetRate_samePorts : SamePorts s (runSetRate r s).state := by
  unfold runSetRate
  dsimp only
  split <;> exact ⟨rfl, rfl, rfl⟩

theorem runSetEpochWatch_samePorts : SamePorts s (runSetEpochWatch r s).state := by
  unfold runSetEpochWatch
  dsimp only
  split <;> exact ⟨rfl, rfl, rfl⟩

theorem runSetCadence_samePorts : SamePorts s (runSetCadence r s).state := by
  unfold runSetCadence
  dsimp only
  split <;> exact ⟨rfl, rfl, rfl⟩

theorem runSetSite_samePorts : SamePorts s (runSetSite r s).state := by
  unfold runSetSite
  dsimp only
  split <;> exact ⟨rfl, rfl, rfl⟩

theorem runReadAxis_samePorts : SamePorts s (runReadAxis r s).state := by
  unfold runReadAxis
  dsimp only
  repeat' split
  all_goals exact .refl s

theorem writeAxisItems_samePorts (a : Fin Config.axisCount) (items : Items) :
    SamePorts s (writeAxisItems s a items).state := by
  unfold writeAxisItems
  dsimp only
  repeat' split
  all_goals exact ⟨rfl, rfl, rfl⟩

theorem runWriteAxis_samePorts : SamePorts s (runWriteAxis r s).state := by
  unfold runWriteAxis
  dsimp only
  split
  · exact .refl s
  split
  · exact .refl s
  · exact writeAxisItems_samePorts s _ _

theorem runLoadSegments_samePorts : SamePorts s (runLoadSegments r s).state := by
  unfold runLoadSegments
  dsimp only
  repeat' split
  all_goals exact ⟨rfl, rfl, rfl⟩

theorem runWriteBody_samePorts : SamePorts s (runWriteBody r s).state := by
  unfold runWriteBody
  repeat' split
  all_goals exact ⟨rfl, rfl, rfl⟩

theorem runReadSegments_samePorts : SamePorts s (runReadSegments r s).state := by
  unfold runReadSegments
  dsimp only
  repeat' split
  all_goals exact .refl s

theorem runReadBody_samePorts : SamePorts s (runReadBody r s).state := by
  unfold runReadBody
  repeat' split
  all_goals exact .refl s

theorem scheduleSwap_samePorts (swap : SwapState) : SamePorts s (scheduleSwap s swap).state := by
  unfold scheduleSwap
  repeat' split
  all_goals exact ⟨rfl, rfl, rfl⟩

theorem runSwapBanks_samePorts : SamePorts s (runSwapBanks r s).state := by
  unfold runSwapBanks
  dsimp only
  split
  · exact scheduleSwap_samePorts s _
  · split
    · exact scheduleSwap_samePorts s _
    · exact .refl s
  · exact .refl s

theorem runCancelSwap_samePorts : SamePorts s (runCancelSwap r s).state := by
  unfold runCancelSwap
  repeat' split
  all_goals exact ⟨rfl, rfl, rfl⟩

theorem runWriteCues_samePorts : SamePorts s (runWriteCues r s).state := by
  unfold runWriteCues
  dsimp only
  repeat' split
  all_goals exact ⟨rfl, rfl, rfl⟩

theorem onChannel_samePorts {run : Request → State → Fin Config.channelCount → Answer}
    (same : ∀ c, SamePorts s (run r s c).state) : SamePorts s (onChannel run r s).state := by
  unfold onChannel
  split
  · exact .refl s
  split
  · exact .refl s
  · exact same _

theorem writeChannel_samePorts (c : Fin Config.channelCount) : SamePorts s (writeChannel r s c).state := by
  unfold writeChannel
  repeat' split
  all_goals exact ⟨rfl, rfl, rfl⟩

theorem armChannel_samePorts (c : Fin Config.channelCount) : SamePorts s (armChannel r s c).state := by
  unfold armChannel
  repeat' split
  all_goals exact ⟨rfl, rfl, rfl⟩

theorem disarmChannel_samePorts (c : Fin Config.channelCount) : SamePorts s (disarmChannel r s c).state := by
  unfold disarmChannel
  split <;> exact ⟨rfl, rfl, rfl⟩

/-- The rule of an axis command writes the axes alone (R104 to R110). -/
theorem commandRule_samePorts {code : Byte} {run : State → Fin Config.axisCount → Answer}
    (named : commandRule code = some run) (a : Fin Config.axisCount) : SamePorts s (run s a).state := by
  unfold commandRule at named
  split at named
  case h_7 => cases named
  all_goals obtain rfl := Option.some.inj named
  case h_4 => exact .of_axes (trackAxis_frame s a)
  case h_5 => exact .of_axes (stopAxis_frame s a)
  case' h_1 => unfold enableAxis
  case' h_2 => unfold disableAxis
  case' h_3 => unfold homeAxis
  case' h_6 => unfold clearFaultAxis
  all_goals
    dsimp only
    repeat' split
    all_goals exact ⟨rfl, rfl, rfl⟩

theorem command_samePorts {code : Byte} {run : State → Fin Config.axisCount → Answer} (named : commandRule code = some run) :
    SamePorts s (onAxis run r s).state := by
  unfold onAxis
  split
  · split
    · exact commandRule_samePorts s named _
    · exact .refl s
  · exact .refl s

theorem runAxisCommand_samePorts : SamePorts s (runAxisCommand r s).state := by
  unfold runAxisCommand
  split
  · split
    · next named => exact command_samePorts r s named
    · exact .refl s
  · exact .refl s

end requests

end Sys2Proof.Machine

end

section
/-! The laws of the ports: the balance of the credits, the bounds of the buffers, the place of a SOFT_RESET reply and the idleness of the
transmitters, under each operation and each command (R158 to R166, R171, R172). -/

namespace Sys2Proof.Machine

/-! ## The laws of the ports under each operation -/

/-- What leads from s to t keeps the queue of commands and, each by itself, the laws of the ports that hold throughout a step. -/
structure PortsKept (s t : State) : Prop where
  pending : t.pending = s.pending
  credits : CreditsBalance s → CreditsBalance t
  bounds : BuffersBounded s → BuffersBounded t
  resetReply : ResetReplyFirst s → ResetReplyFirst t

theorem PortsKept.refl (s : State) : PortsKept s s := ⟨rfl, id, id, id⟩

theorem PortsKept.trans {s t u : State} (first : PortsKept s t) (second : PortsKept t u) : PortsKept s u :=
  ⟨second.pending.trans first.pending, second.credits ∘ first.credits, second.bounds ∘ first.bounds,
    second.resetReply ∘ first.resetReply⟩

theorem SamePorts.kept {s t : State} (same : SamePorts s t) : PortsKept s t := by
  refine ⟨same.pending, ?_, ?_, ?_⟩
  · unfold CreditsBalance
    rw [same.ring, same.mgmt]
    exact id
  · unfold BuffersBounded
    rw [same.ring]
    exact id
  · unfold ResetReplyFirst
    rw [same.mgmt]
    exact id

/-! ### Discards and buffers (R158, R161, R162) -/

theorem discard_kept (s : State) (port : Port) (reason : LinkReason) : PortsKept s (s.discard port reason) := by
  cases port with
  | u => exact ⟨rfl, id, fun ⟨down, up, setpoints, _, errorsD⟩ => ⟨down, up, setpoints, Nat.min_le_left _ _, errorsD⟩, id⟩
  | d => exact ⟨rfl, id, fun ⟨down, up, setpoints, errorsU, _⟩ => ⟨down, up, setpoints, errorsU, Nat.min_le_left _ _⟩, id⟩

/-- A frame joins a list that has room. -/
theorem length_append_one_le {l : List Frame} (f : Frame) (room : l.length < Config.bufferSize) : (l ++ [f]).length ≤ 4 := by
  rw [List.length_append]
  exact room

theorem placeDownstream_kept (s : State) (f : Frame) : PortsKept s (s.placeDownstream f) := by
  unfold State.placeDownstream
  split
  · next room => exact ⟨rfl, id, fun ⟨_, rest⟩ => ⟨length_append_one_le f room, rest⟩, id⟩
  · exact discard_kept s _ _

theorem placeUpstream_kept (s : State) (f : Frame) : PortsKept s (s.placeUpstream f) := by
  unfold State.placeUpstream
  split
  · next room => exact ⟨rfl, id, fun ⟨down, _, rest⟩ => ⟨down, length_append_one_le f room, rest⟩, id⟩
  · exact discard_kept s _ _

/-- Where four SETPOINT frames wait, the oldest gives way (R162). -/
theorem handOver_kept (s : State) (f : Frame) : PortsKept s (s.handOver f) := by
  refine ⟨rfl, id, fun ⟨down, up, setpoints, errors⟩ => ⟨down, up, ?_, errors⟩, id⟩
  refine length_append_one_le f ?_
  split
  · assumption
  · rw [List.length_tail]
    show s.ring.setpoints.length - 1 < 4
    omega

/-! ### Frames received (R158 to R160, R164) -/

/-- A request admitted takes the credit that it holds (R164). -/
theorem admitRequest_kept (s : State) (payload : List Byte) : PortsKept s (admitRequest s payload) := by
  unfold admitRequest
  split
  · split
    · next free =>
        refine ⟨rfl, fun balance => ?_, id, id⟩
        unfold CreditsBalance at balance ⊢
        rw [List.length_append, ← balance]
        simp only [List.length_singleton]
        omega
    · exact ⟨rfl, id, id, id⟩
  all_goals exact discard_kept s _ _

theorem receiveCheck_kept {s u : State} {port : Port} {f : Frame} (failed : receiveCheck s port f = some u) :
    PortsKept s u := by
  unfold receiveCheck at failed
  split at failed
  · cases failed
  · obtain rfl := Option.some.inj failed
    exact discard_kept s _ _
  · obtain rfl := Option.some.inj failed
    exact discard_kept s _ _
  · obtain rfl := Option.some.inj failed
    have counted : SamePorts s { s with freeCount := s.freeCount + 1 } := ⟨rfl, rfl, rfl⟩
    exact counted.kept.trans (discard_kept _ _ _)

theorem dispatchU_portsKept (s : State) (f : Frame) : PortsKept s (dispatchU s f) := by
  unfold dispatchU
  split
  · exact discard_kept s _ _
  split
  · exact placeDownstream_kept s f
  split
  · exact (externalSync_samePorts s).kept
  split
  · exact admitRequest_kept s _
  · exact discard_kept s _ _

theorem dispatchD_portsKept (s : State) (f : Frame) : PortsKept s (dispatchD s f) := by
  unfold dispatchD
  split
  · exact discard_kept s _ _
  split
  · exact (takeFeedback_samePorts s _ _).kept.trans (placeUpstream_kept _ f)
  · exact placeUpstream_kept s f

/-! ### Frames that end (R162 to R164) -/

theorem endFrameD_kept (s : State) : PortsKept s s.endFrameD := ⟨rfl, id, id, id⟩

/-- The credit that a REPLY held while it was sent is free again (R164). -/
theorem endFrameU_kept {s : State} {sending : USending} (busy : s.ring.uSending = some sending) :
    PortsKept s (s.endFrameU sending) := by
  refine ⟨rfl, fun balance => ?_, id, id⟩
  unfold CreditsBalance at balance ⊢
  rw [busy] at balance
  simp only [State.endFrameU, Option.map_some, Option.map_none, Option.getD_some, Option.getD_none] at balance ⊢
  omega

/-! ### The emission (R122) -/

theorem emitSetpoint_portsKept (s : State) (ev : Evaluation) : PortsKept s (emitSetpoint s ev) := by
  have frame := (foldl_emitAxis_emitted (s.cycle + 1) ev.records { s with cycle := s.cycle + 1 }).frame
  have tested : SamePorts s (ev.records.foldl (emitAxis (s.cycle + 1)) { s with cycle := s.cycle + 1 }) := by
    rw [frame]
    exact ⟨rfl, rfl, rfl⟩
  have staged (u : State) : SamePorts u (u.setStage .servicing) := ⟨rfl, rfl, rfl⟩
  exact tested.kept.trans ((handOver_kept _ _).trans ((staged _).trans (completeIfServiced_samePorts _)).kept)

/-! ### Requests (R164 to R167, R171, R179) -/

/-- A REPLY holds the credit that its request held, and joins the queue behind a SOFT_RESET's (R164, R165, R171). -/
theorem answer_kept {s : State} {r : Request} {rest : List Request} (head : s.mgmt.requests = r :: rest) (k : ReplyCode)
    (content : List Byte) : PortsKept s (s.answer r k content) := by
  refine ⟨rfl, fun balance => ?_, id, fun first marked => ?_⟩
  · unfold CreditsBalance at balance ⊢
    simp only [State.answer_mgmt, State.answer_ring, head, List.tail_cons, List.length_append, List.length_cons,
      List.length_nil] at balance ⊢
    omega
  · obtain ⟨reply, later, replies, code, result⟩ := first marked
    rw [State.answer_mgmt, replies]
    exact ⟨reply, _, rfl, code, result⟩

/-- READ_STATUS may set the two counters to 0 (R179). -/
theorem runReadStatus_kept (r : Request) (s : State) :
    PortsKept s (runReadStatus r s).state ∧ (runReadStatus r s).state.mgmt.requests = s.mgmt.requests := by
  unfold runReadStatus
  split
  · dsimp only
    split
    · exact ⟨.refl s, rfl⟩
    · refine ⟨⟨rfl, id, fun ⟨down, up, setpoints, errorsU, errorsD⟩ => ⟨down, up, setpoints, ?_, ?_⟩, id⟩, rfl⟩
      · show (if _ then 0 else s.ring.errorsU) ≤ 65535
        split <;> omega
      · show (if _ then 0 else s.ring.errorsD) ≤ 65535
        split <;> omega
  · exact ⟨.refl s, rfl⟩

/-- The device mode is no part of the laws of the ports (R167). -/
theorem setMode_kept (s : State) (mode : Mode) : PortsKept s { s with mgmt := { s.mgmt with mode := mode } } :=
  ⟨rfl, id, id, id⟩

theorem runEnterShow_kept (r : Request) (s : State) :
    PortsKept s (runEnterShow r s).state ∧ (runEnterShow r s).state.mgmt.requests = s.mgmt.requests := by
  unfold runEnterShow
  split
  · exact ⟨.refl s, rfl⟩
  split
  · exact ⟨.refl s, rfl⟩
  split
  · exact ⟨.refl s, rfl⟩
  · exact ⟨setMode_kept s _, rfl⟩

theorem runEnterSetup_kept (r : Request) (s : State) :
    PortsKept s (runEnterSetup r s).state ∧ (runEnterSetup r s).state.mgmt.requests = s.mgmt.requests := by
  unfold runEnterSetup
  split
  · exact ⟨.refl s, rfl⟩
  · exact ⟨setMode_kept s _, rfl⟩

/-- The soft reset leaves its own credit and that of a REPLY being sent held, and its REPLY alone in the Reply Queue (R171). -/
theorem softResetState_answer_kept {s : State} {r : Request} (code : r.code = 22) :
    PortsKept s ((softResetState s r).answer r .ok []) := by
  refine ⟨rfl, fun _ => ?_, fun ⟨_, _, rest⟩ => ⟨Nat.zero_le _, Nat.zero_le _, rest⟩, fun _ _ => ⟨_, [], rfl, code, rfl⟩⟩
  show Config.creditCount - creditsHeld s.ring.uSending + 0 + 1 + (s.ring.uSending.map creditOf).getD 0 = Config.creditCount
  cases s.ring.uSending with
  | none => rfl
  | some sending => cases sending <;> rfl

/-! ### The transmitters' choices (R162, R163) -/

/-- The list that the first of a bounded list has left is bounded. -/
theorem length_rest_le {l rest : List Frame} {f : Frame} (taken : l = f :: rest) (bound : l.length ≤ 4) : rest.length ≤ 4 := by
  rw [taken] at bound
  exact Nat.le_of_succ_le bound

theorem chooseD_kept (s : State) : PortsKept s s.chooseD := by
  unfold State.chooseD
  split
  · next taken => exact ⟨rfl, id, fun ⟨down, up, setpoints, rest⟩ => ⟨down, up, length_rest_le taken setpoints, rest⟩, id⟩
  · split
    · next taken => exact ⟨rfl, id, fun ⟨down, rest⟩ => ⟨length_rest_le taken down, rest⟩, id⟩
    · exact .refl s

/-- A notice holds no credit. -/
theorem sendNotice_kept {s : State} (idle : s.ring.uSending = none) (n : Notice) : PortsKept s (s.sendNotice n) := by
  refine ⟨rfl, fun balance => ?_, id, id⟩
  unfold CreditsBalance at balance
  rw [idle] at balance
  exact balance

/-- A REPLY being sent holds the credit that it held as it waited (R164); the first REPLY sent clears the mark (R171). -/
theorem chooseU_kept {s : State} (idle : s.ring.uSending = none) : PortsKept s s.chooseU := by
  unfold State.chooseU
  split
  · next taken =>
      refine ⟨rfl, fun balance => ?_, fun ⟨down, up, rest⟩ => ⟨down, length_rest_le taken up, rest⟩, id⟩
      unfold CreditsBalance at balance
      rw [idle] at balance
      exact balance
  split
  · exact sendNotice_kept idle _
  split
  · next taken =>
      refine ⟨rfl, fun balance => ?_, id, fun _ => nofun⟩
      unfold CreditsBalance at balance
      rw [idle, taken] at balance
      exact balance
  split
  · exact sendNotice_kept idle _
  · exact .refl s

theorem settle_kept (s : State) : PortsKept s s.settle := by
  have d : PortsKept s s.startD := by
    by_cases idle : s.ring.dSending = none
    · exact startD_of_idle idle ▸ chooseD_kept s
    · exact (startD_of_busy idle).symm ▸ PortsKept.refl s
  have u (t : State) : PortsKept t t.startU := by
    by_cases idle : t.ring.uSending = none
    · exact startU_of_idle idle ▸ chooseU_kept idle
    · exact (startU_of_busy idle).symm ▸ PortsKept.refl t
  exact d.trans (u s.startD)

/-! ## No transmitter idles at the end of a step (R162, R163, R171) -/

/-- Where neither class offers a notice and no SOFT_RESET reply waits, the Notice Set is empty. -/
theorem notices_eq_nil_of_none_offered {s : State} (unmarked : s.mgmt.resetReply = false)
    (none : ∀ classA, s.offered classA = none) : s.notices = [] := by
  refine List.eq_nil_iff_forall_not_mem.mpr fun n found => ?_
  have missed := none n.kind.classA
  simp only [State.offered, unmarked, Bool.false_eq_true, if_false, List.find?_eq_none] at missed
  exact missed n found (beq_self_eq_true _)

theorem settle_nothingWaitsD (s : State) (idle : s.settle.ring.dSending = none) :
    s.settle.ring.setpoints = [] ∧ s.settle.ring.downstream = [] := by
  by_cases before : s.ring.dSending = none
  · have takes := settle_takesD before
    unfold TakesNextD at takes
    rw [idle] at takes
    split at takes
    · cases takes
    · cases takes
    · obtain ⟨_, both⟩ := Prod.mk.inj takes
      exact Prod.mk.inj both
  · exact absurd ((settle_restsD before).1.symm.trans idle) before

theorem settle_nothingWaitsU (s : State) (idle : s.settle.ring.uSending = none) :
    s.settle.ring.upstream = [] ∧ s.settle.mgmt.replies = [] ∧ (s.settle.mgmt.resetReply = false → s.settle.notices = []) := by
  by_cases before : s.ring.uSending = none
  · have takes := settle_takesU before
    unfold TakesNextU SendsNotice at takes
    rw [idle] at takes
    split at takes
    · cases takes.1
    · cases takes.1.1
    · cases takes.1
    · cases takes.1.1
    · next noneA _ noneB =>
        obtain ⟨_, upstream, replies, mark, notices, _⟩ := takes
        refine ⟨upstream, replies, fun unmarked => ?_⟩
        rw [notices]
        exact notices_eq_nil_of_none_offered (mark.symm.trans unmarked) (Bool.forall_bool.mpr ⟨noneB, noneA⟩)
  · exact absurd ((settle_restsU before).1.symm.trans idle) before

theorem settle_nothingWaits (s : State) : NothingWaitsOnIdle s.settle := ⟨settle_nothingWaitsD s, settle_nothingWaitsU s⟩

/-! ## Every command (R158 to R171) -/

/-- The outcome of a command in state s is a next state: with the queue of commands as it stands, with the laws of the ports that s
keeps, and with no transmitter idle while something waits for it where s has none. -/
def PortsKeptBy (s : State) (o : Host.Outcome State Fault Refusal) : Prop :=
  ∃ t, o = .next t ∧ PortsKept s t ∧ (NothingWaitsOnIdle s → NothingWaitsOnIdle t)

theorem done_portsKept {s u : State} (kept : PortsKept s u) : PortsKeptBy s (done u) :=
  ⟨_, rfl, kept.trans (settle_kept u), fun _ => settle_nothingWaits u⟩

theorem notDue_portsKept (s : State) : PortsKeptBy s (notDue s) := ⟨_, rfl, .refl s, id⟩

/-- The execution of a request keeps the laws where its rule and its answer together do. -/
theorem execute_portsKept {mine : Request → Bool} {waits : Bool} {run : Request → State → Answer} {s : State}
    (kept : ∀ r rest, s.mgmt.requests = r :: rest → mine r = true →
      PortsKept s ((run r s).state.answer r (run r s).result (run r s).content)) :
    PortsKeptBy s (execute mine waits run s) := by
  unfold execute
  split
  · exact notDue_portsKept s
  · next r rest head =>
      split
      · next due => exact done_portsKept (kept r rest head (Bool.and_eq_true_iff.mp due).1)
      · exact notDue_portsKept s

/-- A rule that leaves the request at the head of its queue. -/
theorem execute_portsKept_of_run {mine : Request → Bool} {waits : Bool} {run : Request → State → Answer} {s : State}
    (kept : ∀ r, PortsKept s (run r s).state ∧ (run r s).state.mgmt.requests = s.mgmt.requests) :
    PortsKeptBy s (execute mine waits run s) :=
  execute_portsKept fun r _ head _ => (kept r).1.trans (answer_kept ((kept r).2.trans head) _ _)

/-- A rule that leaves the ports as they stand. -/
theorem execute_samePorts {mine : Request → Bool} {waits : Bool} {run : Request → State → Answer} {s : State}
    (same : ∀ r, SamePorts s (run r s).state) : PortsKeptBy s (execute mine waits run s) :=
  execute_portsKept_of_run fun r => ⟨(same r).kept, congrArg Management.requests (same r).mgmt⟩

/-! ### Ports and resets -/

theorem execUFrameReceived_portsKept (f : Frame) (s : State) : PortsKeptBy s (execUFrameReceived f s) := by
  unfold execUFrameReceived
  split
  · next failed => exact done_portsKept (receiveCheck_kept failed)
  · exact done_portsKept (dispatchU_portsKept s f)

theorem execDFrameReceived_portsKept (f : Frame) (s : State) : PortsKeptBy s (execDFrameReceived f s) := by
  unfold execDFrameReceived
  split
  · next failed => exact done_portsKept (receiveCheck_kept failed)
  · exact done_portsKept (dispatchD_portsKept s f)

theorem execDTransmitEnd_portsKept (s : State) : PortsKeptBy s (execDTransmitEnd s) := by
  unfold execDTransmitEnd
  split
  · exact done_portsKept (endFrameD_kept s)
  · exact notDue_portsKept s

theorem execUTransmitEnd_portsKept (s : State) : PortsKeptBy s (execUTransmitEnd s) := by
  unfold execUTransmitEnd
  split
  · next busy => exact done_portsKept (endFrameU_kept busy)
  · exact notDue_portsKept s

/-- Power-on sets the ports to values that keep every law (R172). -/
theorem powerOnState_portsKept (s : State) : PortsKept s (powerOnState s) := by
  refine ⟨rfl, fun _ => rfl, fun _ => ?_, fun _ => nofun⟩
  unfold BuffersBounded
  exact ⟨Nat.zero_le _, Nat.zero_le _, Nat.zero_le _, Nat.zero_le _, Nat.zero_le _⟩

theorem execSoftReset_portsKept (s : State) : PortsKeptBy s (execSoftReset s) := by
  refine execute_portsKept fun r rest head own => ?_
  unfold runSoftReset
  split
  · exact answer_kept head _ _
  · exact softResetState_answer_kept (of_decide_eq_true own)

/-! ### The clock and the stages of an evaluation -/

theorem execCadenceLoss_portsKept (s : State) : PortsKeptBy s (execCadenceLoss s) := by
  have lost : SamePorts s (loseCadence s) := ⟨rfl, rfl, rfl⟩
  unfold execCadenceLoss
  split
  · exact done_portsKept lost.kept
  all_goals exact notDue_portsKept s

theorem execLocalSync_portsKept (s : State) : PortsKeptBy s (execLocalSync s) := by
  have scheduled : SamePorts s { s with clock := { s.clock with localGenerator := some s.clock.localPeriod } } :=
    ⟨rfl, rfl, rfl⟩
  unfold execLocalSync
  split
  · exact done_portsKept (scheduled.trans (takeSync_samePorts _)).kept
  all_goals exact notDue_portsKept s

theorem execBodyEvaluation_portsKept (s : State) : PortsKeptBy s (execBodyEvaluation s) := by
  have staged (u : State) (g : Stage) : SamePorts u (u.setStage g) := ⟨rfl, rfl, rfl⟩
  unfold execBodyEvaluation
  split
  · exact notDue_portsKept s
  split
  · exact done_portsKept ((evaluateOneBody_samePorts s _ _).trans (staged _ _)).kept
  all_goals exact notDue_portsKept s

theorem execTargetMapping_portsKept (s : State) : PortsKeptBy s (execTargetMapping s) := by
  have mapped (ev : Evaluation) (a : Fin Config.axisCount) : SamePorts s (mapOneAxis s ev a) := ⟨rfl, rfl, rfl⟩
  unfold execTargetMapping
  split
  · exact notDue_portsKept s
  split
  · exact done_portsKept (mapped _ _).kept
  all_goals exact notDue_portsKept s

theorem execAxisShaping_portsKept (s : State) : PortsKeptBy s (execAxisShaping s) := by
  unfold execAxisShaping
  split
  · exact notDue_portsKept s
  split
  · split
    · exact done_portsKept (shapeOneAxis_samePorts s _ _).kept
    · exact notDue_portsKept s
  all_goals exact notDue_portsKept s

theorem execSetpointEmission_portsKept (s : State) : PortsKeptBy s (execSetpointEmission s) := by
  unfold execSetpointEmission
  split
  · exact notDue_portsKept s
  split
  · split
    · exact done_portsKept (emitSetpoint_portsKept s _)
    · exact notDue_portsKept s
  all_goals exact notDue_portsKept s

theorem execOccurrenceService_portsKept (s : State) : PortsKeptBy s (execOccurrenceService s) := by
  have takenOfEval (ev : Option Evaluation) : SamePorts s { s with eval := ev } := ⟨rfl, rfl, rfl⟩
  have takenOfHeld (cues : Cues) : SamePorts s { s with cues := cues } := ⟨rfl, rfl, rfl⟩
  unfold execOccurrenceService
  split
  · split
    · exact done_portsKept
        (((takenOfEval _).trans (service_samePorts _ _)).trans (completeIfServiced_samePorts _)).kept
    · exact done_portsKept (completeIfServiced_samePorts s).kept
    all_goals exact notDue_portsKept s
  · split
    · exact done_portsKept ((takenOfHeld _).trans (service_samePorts _ _)).kept
    · exact notDue_portsKept s

/-! ### All commands -/

/-- Every command answers a next state and keeps the laws of the ports. -/
theorem exec_portsKept (i : Instr) (s : State) : PortsKeptBy s (exec i s) := by
  cases i with
  | powerOnReset => exact done_portsKept (powerOnState_portsKept s)
  | uFrameReceived f => exact execUFrameReceived_portsKept f s
  | dFrameReceived f => exact execDFrameReceived_portsKept f s
  | cadenceLoss => exact execCadenceLoss_portsKept s
  | localSync => exact execLocalSync_portsKept s
  | bodyEvaluation => exact execBodyEvaluation_portsKept s
  | targetMapping => exact execTargetMapping_portsKept s
  | axisShaping => exact execAxisShaping_portsKept s
  | setpointEmission => exact execSetpointEmission_portsKept s
  | occurrenceService => exact execOccurrenceService_portsKept s
  | dTransmitEnd => exact execDTransmitEnd_portsKept s
  | uTransmitEnd => exact execUTransmitEnd_portsKept s
  | unknownRequest => exact execute_samePorts fun _ => .refl s
  | readStatus => exact execute_portsKept_of_run fun r => runReadStatus_kept r s
  | setEpoch => exact execute_samePorts fun r => runSetEpoch_samePorts r s
  | setRate => exact execute_samePorts fun r => runSetRate_samePorts r s
  | setEpochWatch => exact execute_samePorts fun r => runSetEpochWatch_samePorts r s
  | setCadence => exact execute_samePorts fun r => runSetCadence_samePorts r s
  | setSite => exact execute_samePorts fun r => runSetSite_samePorts r s
  | readAxis => exact execute_samePorts fun r => runReadAxis_samePorts r s
  | writeAxis => exact execute_samePorts fun r => runWriteAxis_samePorts r s
  | enable => exact execute_samePorts fun r => command_samePorts r s (code := 0) rfl
  | disable => exact execute_samePorts fun r => command_samePorts r s (code := 1) rfl
  | home => exact execute_samePorts fun r => command_samePorts r s (code := 2) rfl
  | track => exact execute_samePorts fun r => command_samePorts r s (code := 3) rfl
  | stop => exact execute_samePorts fun r => command_samePorts r s (code := 4) rfl
  | clearFault => exact execute_samePorts fun r => command_samePorts r s (code := 5) rfl
  | readBody => exact execute_samePorts fun r => runReadBody_samePorts r s
  | writeBody => exact execute_samePorts fun r => runWriteBody_samePorts r s
  | loadSegments => exact execute_samePorts fun r => runLoadSegments_samePorts r s
  | readSegments => exact execute_samePorts fun r => runReadSegments_samePorts r s
  | swapBanks => exact execute_samePorts fun r => runSwapBanks_samePorts r s
  | cancelSwap => exact execute_samePorts fun r => runCancelSwap_samePorts r s
  | writeCues => exact execute_samePorts fun r => runWriteCues_samePorts r s
  | writeChannel => exact execute_samePorts fun r => onChannel_samePorts r s (writeChannel_samePorts r s)
  | armChannel => exact execute_samePorts fun r => onChannel_samePorts r s (armChannel_samePorts r s)
  | disarmChannel => exact execute_samePorts fun r => onChannel_samePorts r s (disarmChannel_samePorts r s)
  | enterShow => exact execute_portsKept_of_run fun r => runEnterShow_kept r s
  | enterSetup => exact execute_portsKept_of_run fun r => runEnterSetup_kept r s
  | softReset => exact execSoftReset_portsKept s
  | axisCommand => exact execute_samePorts fun r => runAxisCommand_samePorts r s

/-- Every step keeps the laws of the ports: they do not read the queue of commands, from which it takes the front one. -/
theorem step_portsKept {s t : State} (stepped : step s = .next t) :
    (CreditsBalance s → CreditsBalance t) ∧ (BuffersBounded s → BuffersBounded t) ∧
      (NothingWaitsOnIdle s → NothingWaitsOnIdle t) ∧ (ResetReplyFirst s → ResetReplyFirst t) := by
  unfold step at stepped
  split at stepped
  · obtain rfl := Host.Outcome.next.inj stepped
    exact ⟨id, id, id, id⟩
  · next c rest _ =>
      obtain ⟨u, outcome, kept, waits⟩ := exec_portsKept c { s with pending := rest }
      obtain rfl := Host.Outcome.next.inj (outcome.symm.trans stepped)
      exact ⟨kept.credits, kept.bounds, waits, kept.resetReply⟩

/-- Settles O54: the balance by what every step keeps. -/
theorem creditsStayBalanced : Obligations.CreditsStayBalanced :=
  fun _ _ balance stepped => (step_portsKept stepped).1 balance

/-- Settles O55: the three laws by what every step keeps. -/
theorem portsStaySound : Obligations.PortsStaySound := by
  intro s t ⟨bounded, idle, first⟩ stepped
  obtain ⟨_, bounds, waits, resetReply⟩ := step_portsKept stepped
  exact ⟨bounds bounded, waits idle, resetReply first⟩

end Sys2Proof.Machine

end

section
/-! Commands that are not due, and the ports after each reset (R39, R62, R80, R122, R150, R162, R163, R171, R172). -/

namespace Sys2Proof.Machine

/-! ## Commands that are not due (log entry 2) -/

section notDue

variable {s : State}

theorem exec_bodyEvaluation_of_notDue (other : ∀ ev b, s.eval = some ev → ev.stage ≠ .bodies b) :
    exec .bodyEvaluation s = .next s := by
  show execBodyEvaluation s = .next s
  unfold execBodyEvaluation
  split
  · rfl
  next ev inFlight =>
  split
  · next stage => exact absurd stage (other ev _ inFlight)
  all_goals rfl

theorem exec_targetMapping_of_notDue (other : ∀ ev a, s.eval = some ev → ev.stage ≠ .mapping a) :
    exec .targetMapping s = .next s := by
  show execTargetMapping s = .next s
  unfold execTargetMapping
  split
  · rfl
  next ev inFlight =>
  split
  · next stage => exact absurd stage (other ev _ inFlight)
  all_goals rfl

/-- A shaping is not due where the axes that its stage has left are OFF (R80). -/
theorem exec_axisShaping_of_notDue
    (off : ∀ ev n (a : Fin Config.axisCount), s.eval = some ev → ev.stage = .shaping n → n ≤ a.val → (s.axis a).state = .off) :
    exec .axisShaping s = .next s := by
  show execAxisShaping s = .next s
  unfold execAxisShaping
  split
  · rfl
  next ev inFlight =>
  split
  · next n stage =>
      rw [nextLive_eq_none fun a => off ev n a inFlight stage]
      rfl
  all_goals rfl

/-- A live axis left is one to be shaped before the emission (R122). -/
theorem nextLive_ne_none {n : Nat} {a : Fin Config.axisCount} (left : n ≤ a.val) (live : (s.axis a).state ≠ .off) :
    s.nextLive n ≠ none := by
  intro none
  have passed := List.find?_eq_none.mp none a (List.mem_finRange a)
  simp [left, live] at passed

theorem exec_setpointEmission_of_notDue
    (live : ∀ ev n, s.eval = some ev → ev.stage = .shaping n →
      ∃ a : Fin Config.axisCount, n ≤ a.val ∧ (s.axis a).state ≠ .off) :
    exec .setpointEmission s = .next s := by
  show execSetpointEmission s = .next s
  unfold execSetpointEmission
  split
  · rfl
  next ev inFlight =>
  split
  · next n stage =>
      obtain ⟨a, left, live⟩ := live ev n inFlight stage
      split
      · next none => exact absurd none (nextLive_ne_none left live)
      · rfl
  all_goals rfl

/-- A servicing is not due outside its stage, nor between evaluations where nothing is held (R150, R151). -/
theorem exec_occurrenceService_of_notDue (other : ∀ ev, s.eval = some ev → ev.stage ≠ .servicing)
    (empty : s.eval = none → s.cues.held = []) : exec .occurrenceService s = .next s := by
  show execOccurrenceService s = .next s
  unfold execOccurrenceService
  split
  · next ev inFlight =>
      split
      · next stage _ => exact absurd stage (other ev inFlight)
      · next stage _ => exact absurd stage (other ev inFlight)
      all_goals rfl
  · next idle => rw [empty idle]; rfl

theorem exec_dTransmitEnd_of_idle (idle : s.ring.dSending = none) : exec .dTransmitEnd s = .next s := by
  simp only [exec, execDTransmitEnd, idle, notDue]

theorem exec_uTransmitEnd_of_idle (idle : s.ring.uSending = none) : exec .uTransmitEnd s = .next s := by
  simp only [exec, execUTransmitEnd, idle, notDue]

end notDue

/-- Settles O2: the next state and its queue by what every command keeps, and the commands that are not due one by one. -/
theorem everyCommandAnswersNext : Obligations.EveryCommandAnswersNext := by
  refine ⟨fun c s => ?_, fun s => ⟨exec_bodyEvaluation_of_notDue, exec_targetMapping_of_notDue, exec_axisShaping_of_notDue,
    exec_setpointEmission_of_notDue, exec_occurrenceService_of_notDue, exec_dTransmitEnd_of_idle, exec_uTransmitEnd_of_idle⟩⟩
  obtain ⟨t, outcome, kept, _⟩ := exec_portsKept c s
  exact ⟨t, outcome, kept.pending⟩

/-! ## The ports after a soft reset (R171) -/

/-- The soft reset with its own answer, before the transmitters choose. -/
def State.softResetAnswered (s : State) (r : Request) : State := (softResetState s r).answer r .ok []

section softReset

variable (s : State) (r : Request)

/-- The REPLY of a SOFT_RESET request r (R171). -/
def resetReplyOf : Reply := { tag := r.tag, code := r.code, result := .ok, content := [] }

@[simp] theorem softResetAnswered_ring :
    (s.softResetAnswered r).ring = { s.ring with downstream := [], upstream := [] } := rfl
/-- An idle U transmitter begins the soft reset's REPLY at once, for no frame waits upstream and no notice is offered; where it is
sending, the REPLY waits, and its mark is set (log entry 12). -/
theorem softResetAnswered_settleU :
    (s.softResetAnswered r).settle.ring.upstream = [] ∧
      match s.ring.uSending with
      | none =>
          (s.softResetAnswered r).settle.ring.uSending = some (.reply (replyFrame (resetReplyOf r))) ∧
            (s.softResetAnswered r).settle.mgmt.replies = [] ∧ (s.softResetAnswered r).settle.mgmt.resetReply = false
      | some sending =>
          (s.softResetAnswered r).settle.ring.uSending = some sending ∧
            (s.softResetAnswered r).settle.mgmt.resetReply = true ∧
            (s.softResetAnswered r).settle.mgmt.replies = [resetReplyOf r] := by
  cases before : s.ring.uSending with
  | none =>
      obtain ⟨sending, upstream, replies, mark, _⟩ := settle_takesU (s := s.softResetAnswered r) before
      exact ⟨upstream, sending, replies, mark⟩
  | some sending =>
      obtain ⟨same, upstream, replies, mark, _⟩ := settle_restsU (s := s.softResetAnswered r) (by simp [before])
      exact ⟨upstream, same.trans before, mark, replies⟩

/-- An idle D transmitter takes a SETPOINT frame that waited, since the soft reset empties the downstream buffer. -/
theorem softResetAnswered_settleD :
    (s.softResetAnswered r).settle.ring.downstream = [] ∧
      match s.ring.dSending, s.ring.setpoints with
      | none, f :: later =>
          (s.softResetAnswered r).settle.ring.dSending = some (.setpoint f) ∧
            (s.softResetAnswered r).settle.ring.setpoints = later
      | sending, waiting =>
          (s.softResetAnswered r).settle.ring.dSending = sending ∧ (s.softResetAnswered r).settle.ring.setpoints = waiting := by
  cases before : s.ring.dSending with
  | some sending =>
      obtain ⟨same, setpoints, downstream⟩ :=
        settle_restsD (s := s.softResetAnswered r) (by simp [before])
      exact ⟨downstream, same.trans before, setpoints⟩
  | none =>
      have takes := settle_takesD (s := s.softResetAnswered r) before
      unfold TakesNextD at takes
      rw [softResetAnswered_ring] at takes
      cases waiting : s.ring.setpoints
      all_goals
        simp only [waiting, Prod.mk.injEq] at takes
        obtain ⟨sending, setpoints, downstream⟩ := takes
        exact ⟨downstream, sending, setpoints⟩

end softReset

/-- Settles O7: the power-on values, and the soft reset's, with what each transmitter takes as the step ends. -/
theorem portsAfterResets : Obligations.PortsAfterResets := by
  refine fun s => ⟨⟨_, rfl, rfl, rfl, rfl⟩, fun r rest head code bare idle => ?_⟩
  have outcome : exec .softReset s = .next (s.softResetAnswered r).settle := exec_softReset_of_idle head code bare idle
  have reply : resetReplyOf r = { tag := r.tag, code := 22, result := .ok, content := [] } := by rw [resetReplyOf, code]
  obtain ⟨upstream, sideU⟩ := softResetAnswered_settleU s r
  obtain ⟨downstream, sideD⟩ := softResetAnswered_settleD s r
  have credits : (s.softResetAnswered r).settle.mgmt.freeCredits = 8 - creditsHeld s.ring.uSending :=
    State.settle_freeCredits _
  rw [← reply]
  refine ⟨_, outcome, List.sublist_nil.mp (settle_notices (s.softResetAnswered r)), downstream, upstream,
    State.settle_errorsU _, State.settle_errorsD _, settle_requests _, State.settle_mode _, ?_, sideD⟩
  cases before : s.ring.uSending with
  | none =>
      rw [before] at sideU credits
      obtain ⟨sending, replies, mark⟩ := sideU
      exact ⟨sending, replies, credits, mark⟩
  | some u =>
      rw [before] at sideU credits
      obtain ⟨sending, mark, replies⟩ := sideU
      cases u <;> exact ⟨sending, credits, mark, replies⟩

end Sys2Proof.Machine

end

section
/-! Frames at the ports: which frames fail their check or their length, how a checked frame is dispatched, and how a REQUEST is
admitted (R158 to R161, R164, R166, R180). -/

namespace Sys2Proof.Machine

/-! ## A discard (R158) -/

theorem discard_u (s : State) (reason : LinkReason) :
    s.discard .u reason =
      { s with
        ring := { s.ring with errorsU := min 65535 (s.ring.errorsU + 1) },
        notices := raiseInto .linkU 0 (.link reason (min 65535 (s.ring.errorsU + 1))) s.notices } := rfl

theorem discard_d (s : State) (reason : LinkReason) :
    s.discard .d reason =
      { s with
        ring := { s.ring with errorsD := min 65535 (s.ring.errorsD + 1) },
        notices := raiseInto .linkD 0 (.link reason (min 65535 (s.ring.errorsD + 1))) s.notices } := rfl

/-! ## The length and the check of a frame (R158, R180) -/

/-- Two bytes, the high one first. -/
theorem beNat_pair (high low : Byte) : beNat [high, low] = 256 * high.toNat + low.toNat := by
  rw [beNat_cons, beNat_singleton, List.length_singleton, Nat.pow_one, Nat.mul_comm]

/-- The payload length field of a frame that holds an envelope is its third and fourth byte, the high one first. -/
theorem frameLength_eq {f : Frame} (envelope : 6 ≤ f.length) :
    frameLength f = 256 * (f.getD 2 0).toNat + (f.getD 3 0).toNat := by
  match f, envelope with
  | _ :: _ :: high :: low :: _, _ => exact beNat_pair high low

theorem lengthFails_iff (f : Frame) :
    lengthFails f = true ↔
      f.length < 6 ∨ 256 * (f.getD 2 0).toNat + (f.getD 3 0).toNat > 1024 ∨
        f.length ≠ 6 + (256 * (f.getD 2 0).toNat + (f.getD 3 0).toNat) := by
  simp only [lengthFails, Bool.or_eq_true, decide_eq_true_eq, or_assoc]
  by_cases short : f.length < 6
  · exact iff_of_true (.inl short) (.inl short)
  · rw [frameLength_eq (Nat.le_of_not_lt short)]

theorem checkFails_append_iff (covered : List Byte) (high low : Byte) :
    checkFails (covered ++ [high, low]) = true ↔ (checkOf covered).toNat ≠ 256 * high.toNat + low.toNat := by
  have before : (covered ++ [high, low]).length - 2 = covered.length := by simp
  rw [checkFails, before, List.take_left, List.drop_left, beNat_pair, decide_eq_true_eq]

/-- One bit taken by the register: it is shifted, and combined with 4,129 where its top bit differed from the bit (R180). -/
theorem checkBit_eq (register : BitVec 16) (b : Bool) :
    checkBit register b =
      if register.msb = b then register <<< 1 else (register <<< 1) ^^^ BitVec.ofNat 16 4129 := by
  have top : register.getLsbD 15 = register.msb := (BitVec.msb_eq_getLsbD_last register).symm
  unfold checkBit
  rw [top]
  by_cases same : register.msb = b
  · simp [same]
  · simp [same, bne_iff_ne.mpr same]

theorem checkOf_append_singleton (bs : List Byte) (b : Byte) :
    checkOf (bs ++ [b]) =
      [7, 6, 5, 4, 3, 2, 1, 0].foldl
        (fun (register : BitVec 16) i =>
          if register.msb = b.getLsbD i then register <<< 1 else (register <<< 1) ^^^ BitVec.ofNat 16 4129)
        (checkOf bs) := by
  simp only [← checkBit_eq]
  exact List.foldl_append

/-! ## A frame that fails is discarded (R158) -/

section received

variable {s : State} {f : Frame} {port : Port}

/-- The command by which a port takes a frame. -/
def Port.received (port : Port) (f : Frame) : Instr :=
  match port with
  | .u => .uFrameReceived f
  | .d => .dFrameReceived f

theorem exec_received_of_failed {u : State} (failed : receiveCheck s port f = some u) :
    exec (port.received f) s = .next u.settle := by
  cases port
  case u => simp only [Port.received, exec, execUFrameReceived, failed, done]
  case d => simp only [Port.received, exec, execDFrameReceived, failed, done]

theorem receiveCheck_of_check (check : checkFails f = true) (length : lengthFails f = false) :
    receiveCheck s port f = some (s.discard port .check) := by
  simp only [receiveCheck, check, length]

theorem receiveCheck_of_length (check : checkFails f = false) (length : lengthFails f = true) :
    receiveCheck s port f = some (s.discard port .length) := by
  simp only [receiveCheck, check, length]

theorem receiveCheck_of_both (check : checkFails f = true) (length : lengthFails f = true) :
    receiveCheck s port f =
      some (State.discard { s with freeCount := s.freeCount + 1 } port
        (if Config.checkReasonFirst s.freeCount then .check else .length)) := by
  simp only [receiveCheck, check, length]

end received

/-- Settles O40: the three ways to fail at either port, and the tests of a frame on its bytes. -/
theorem badFramesAreDiscarded : Obligations.BadFramesAreDiscarded := by
  refine ⟨fun s f port => ?_, lengthFails_iff, checkFails_append_iff, by decide, checkOf_append_singleton⟩
  intro i after
  have command : i = port.received f := rfl
  have discarded (reason : LinkReason) (u : State) : after reason u = u.discard port reason := by cases port <;> rfl
  simp only [command, discarded]
  refine ⟨fun check length => exec_received_of_failed (receiveCheck_of_check check length),
    fun check length => exec_received_of_failed (receiveCheck_of_length check length),
    fun check length => ⟨_, ?_, exec_received_of_failed (receiveCheck_of_both check length)⟩⟩
  split
  · exact .inl rfl
  · exact .inr rfl

/-! ## A checked frame (R159 to R161) -/

section checked

variable {s : State} {f : Frame}

theorem exec_uFrameReceived_of_checked (checked : Checked f) :
    exec (.uFrameReceived f) s = .next (dispatchU s f).settle := by
  simp only [exec, execUFrameReceived, receiveCheck_of_checked checked, done]

theorem exec_dFrameReceived_of_checked (checked : Checked f) :
    exec (.dFrameReceived f) s = .next (dispatchD s f).settle := by
  simp only [exec, execDFrameReceived, receiveCheck_of_checked checked, done]

/-- A REQUEST for the part's own node (R159). -/
theorem dispatchU_request (node : frameNode f = 0) (kind : frameKind f = 2) :
    dispatchU s f = admitRequest s (framePayload f) := by
  simp [dispatchU, node, kind, kindSync, kindRequest]

/-- No node of the ring, or a kind that the part's own node does not take (R159). -/
theorem dispatchU_address
    (wrong : (frameNode f = 0 ∧ frameKind f ≠ 1 ∧ frameKind f ≠ 2) ∨ frameNode f > 31) :
    dispatchU s f = s.discard .u .address := by
  unfold dispatchU
  rcases wrong with ⟨node, sync, request⟩ | high
  · rw [if_neg (by omega), if_neg fun other => other node]
    exact (if_neg sync).trans (if_neg request)
  · rw [if_pos high]

theorem dispatchU_forwarded (low : 1 ≤ frameNode f) (high : frameNode f ≤ 31) : dispatchU s f = s.placeDownstream f := by
  unfold dispatchU
  rw [if_neg (Nat.not_lt.mpr high), if_pos (Nat.one_le_iff_ne_zero.mp low)]

theorem dispatchD_address (wrong : frameNode f = 0 ∨ frameNode f > 31) : dispatchD s f = s.discard .d .address :=
  if_pos wrong.symm

/-- A FEEDBACK frame of a drive node is taken and then placed upstream (R160). -/
theorem dispatchD_feedback (low : 1 ≤ frameNode f) (high : frameNode f ≤ 30) (kind : frameKind f = 6) :
    dispatchD s f = (takeFeedback s (frameNode f) (framePayload f)).placeUpstream f := by
  unfold dispatchD
  rw [if_neg (by omega), if_pos ⟨kind, high⟩]

theorem dispatchD_forwarded (low : 1 ≤ frameNode f) (high : frameNode f ≤ 31)
    (other : ¬(frameKind f = 6 ∧ frameNode f ≤ 30)) : dispatchD s f = s.placeUpstream f := by
  unfold dispatchD
  rw [if_neg (by omega)]
  exact if_neg other

end checked

/-- Settles O39: the dispatch of a frame from the U port, case by case. -/
theorem uFrameDispatched : Obligations.UFrameDispatched := by
  intro s f checked discarded
  rw [exec_uFrameReceived_of_checked checked]
  refine ⟨fun node kind => ?_, fun node kind => ?_, fun wrong => ?_, fun low high => ⟨fun room => ?_, fun full => ?_⟩⟩
  · rw [dispatchU_sync node kind]
  · rw [dispatchU_request node kind]
  · rw [dispatchU_address wrong, discard_u]
  · rw [dispatchU_forwarded low high]
    exact congrArg (fun t => Host.Outcome.next (State.settle t)) (if_pos room)
  · rw [dispatchU_forwarded low high]
    exact congrArg (fun t => Host.Outcome.next (State.settle t)) (if_neg (Nat.not_lt.mpr full))

/-- Settles O30: the dispatch of a frame from the D port, case by case. -/
theorem dFrameDispatched : Obligations.DFrameDispatched := by
  intro s f checked discarded placed
  rw [exec_dFrameReceived_of_checked checked]
  refine ⟨fun wrong => ?_, fun low high kind => ?_, fun low high other => ?_⟩
  · rw [dispatchD_address wrong, discard_d]
  · rw [dispatchD_feedback low high kind]
    rfl
  · rw [dispatchD_forwarded low high other]
    rfl

/-! ## Admission of a REQUEST (R164, R166) -/

section admission

variable {s : State} {tag code : Byte} {args : List Byte}

/-- A REQUEST that finds a credit takes it and joins the Request Queue. -/
theorem admitRequest_of_credit {n : Nat} (free : s.mgmt.freeCredits = n + 1) :
    admitRequest s (tag :: code :: args) =
      { s with
        mgmt :=
          { s.mgmt with
            freeCredits := n, requests := s.mgmt.requests ++ [{ tag := tag, code := code, args := args }] } } := by
  simp [admitRequest, free]

/-- A REQUEST that finds none is dropped with its notice. -/
theorem admitRequest_of_no_credit (none : s.mgmt.freeCredits = 0) :
    admitRequest s (tag :: code :: args) = s.raise .requestDrop 0 (.requestDrop tag) := by
  simp [admitRequest, none]

/-- A REQUEST too short for a tag and a code is a frame of the wrong length. -/
theorem admitRequest_of_short {payload : List Byte} (short : payload.length < 2) :
    admitRequest s payload = s.discard .u .length := by
  match payload, short with
  | [], _ => rfl
  | [_], _ => rfl

end admission

/-- Settles O41: the three ways of a REQUEST that has come to the part's own node. -/
theorem requestsAreAdmittedOrDropped : Obligations.RequestsAreAdmittedOrDropped := by
  intro s f checked node kind
  rw [exec_uFrameReceived_of_checked checked, dispatchU_request node kind]
  refine ⟨fun tag code args payload => ⟨fun n free => ?_, fun none => ?_⟩, fun short => ?_⟩
  · rw [payload, admitRequest_of_credit free]
  · rw [payload, admitRequest_of_no_credit none]
    rfl
  · rw [admitRequest_of_short short, discard_u]

end Sys2Proof.Machine

end

section
/-! The device mode requests, a code that names no request, and a SOFT_RESET with arguments (R166, R167, R184). -/

namespace Sys2Proof.Machine

/-- An axis that does not keep the part from SHOW: OFF, or HOMED and in HOLDING or TRACKING (R167). -/
theorem fitForShow_iff (x : Axis) :
    x.fitForShow = true ↔ x.state = .off ∨ (x.homed = true ∧ (x.state = .holding ∨ x.state = .tracking)) := by
  simp [Axis.fitForShow]

section requests

variable {s : State} {r : Request}

/-- The lowest unfit axis is the one that a search of the axes in ascending number finds. -/
theorem find?_unfit_eq_some {a : Fin Config.axisCount} (unfit : (s.axis a).fitForShow = false)
    (below : ∀ b : Fin Config.axisCount, b.val < a.val → (s.axis b).fitForShow = true) :
    (allAxes.find? fun b => !(s.axis b).fitForShow) = some a := by
  refine List.find?_eq_some_iff_getElem.mpr ⟨by simp [unfit], a.val, by simp [allAxes], by simp [allAxes], fun j lower => ?_⟩
  simpa [allAxes] using below ⟨j, Nat.lt_trans lower a.isLt⟩ lower

theorem runEnterShow_of_showing (bare : r.args = []) (mode : s.mgmt.mode = .showing) : runEnterShow r s = accept s [] := by
  simp [runEnterShow, bare, mode]

theorem runEnterShow_of_fit (bare : r.args = []) (mode : s.mgmt.mode = .setup) (fit : ∀ a, (s.axis a).fitForShow = true) :
    runEnterShow r s = accept { s with mgmt := { s.mgmt with mode := .showing } } [] := by
  have none : (allAxes.find? fun a => !(s.axis a).fitForShow) = none := by simp [fit]
  simp [runEnterShow, bare, mode, none]

theorem runEnterShow_of_unfit {a : Fin Config.axisCount} (bare : r.args = []) (mode : s.mgmt.mode = .setup)
    (unfit : (s.axis a).fitForShow = false)
    (below : ∀ b : Fin Config.axisCount, b.val < a.val → (s.axis b).fitForShow = true) :
    runEnterShow r s =
      { state := s, result := .state, content := [codeByte a.val, codeByte (s.axis a).state.code] } := by
  simp [runEnterShow, bare, mode, find?_unfit_eq_some unfit below]

theorem runEnterSetup_of_bare (bare : r.args = []) :
    runEnterSetup r s = accept { s with mgmt := { s.mgmt with mode := .setup } } [] :=
  if_neg fun args => args bare

theorem unknownCode_iff (r : Request) : unknownCode r = true ↔ r.code = 0 ∨ r.code.toNat > 22 := by
  simp [unknownCode, BitVec.toNat_eq]

end requests

/-- Settles O50: ENTER_SHOW by the mode and the lowest unfit axis, and each request by its arguments. -/
theorem modesAndUnknownRequests : Obligations.ModesAndUnknownRequests := by
  intro s r rest head fit
  have fits (a : Fin Config.axisCount) : (s.axis a).fitForShow = true ↔ fit (s.axis a) := fitForShow_iff (s.axis a)
  refine ⟨fun code bare => ⟨fun mode => ?_, fun mode all => ?_, fun a mode unfit below => ?_⟩, fun code bare => ?_,
    fun args => ⟨fun code => ?_, fun code => ?_, fun code idle => ?_⟩, fun unknown => ?_⟩
  · exact answers_of_accept rfl head code rfl (runEnterShow_of_showing bare mode)
  · exact answers_of_accept rfl head code rfl (runEnterShow_of_fit bare mode fun a => (fits a).mpr (all a))
  · have failed : (s.axis a).fitForShow = false := Bool.eq_false_iff.mpr fun fine => unfit ((fits a).mp fine)
    exact answers_of_run rfl head code rfl (runEnterShow_of_unfit bare mode failed fun b lower => (fits b).mpr (below b lower))
  · exact answers_of_accept rfl head code rfl (runEnterSetup_of_bare bare)
  · exact answers_of_refuse rfl head code rfl (if_pos args)
  · exact answers_of_refuse rfl head code rfl (if_pos args)
  · exact answers_of_refuse rfl head code (by simp [State.inFlight, idle]) (if_pos args)
  · exact execute_due head ((unknownCode_iff r).mpr unknown) rfl

end Sys2Proof.Machine

end

section
/-! The law of the Notice Set under a raise and under each operation that raises notices or takes them out (R173, R174). -/

namespace Sys2Proof.Machine

/-! ## A raise (R174) -/

theorem Notice.hasKey_iff (kind : NoticeKind) (index : Nat) (n : Notice) :
    n.hasKey kind index = true ↔ n.kind = kind ∧ n.index = index := by
  simp [Notice.hasKey]

theorem any_hasKey_iff (kind : NoticeKind) (index : Nat) (ns : List Notice) :
    ns.any (Notice.hasKey kind index) = true ↔ ∃ n ∈ ns, n.kind = kind ∧ n.index = index := by
  simp only [List.any_eq_true, Notice.hasKey_iff]

/-- A raise makes the last entry where none stands for its key. -/
theorem raiseInto_of_absent {kind : NoticeKind} {index : Nat} {ns : List Notice} (detail : Detail)
    (absent : ∀ n ∈ ns, ¬(n.kind = kind ∧ n.index = index)) :
    raiseInto kind index detail ns = ns ++ [{ kind := kind, index := index, count := 1, detail := detail }] := by
  refine raiseInto_new (Bool.eq_false_iff.mpr fun stands => ?_)
  obtain ⟨n, found, key⟩ := (any_hasKey_iff kind index ns).mp stands
  exact absent n found key

/-- A raise coalesces into the entry that stands for its key. -/
theorem raiseInto_of_present {kind : NoticeKind} {index : Nat} {ns : List Notice} (detail : Detail)
    (present : ∃ n ∈ ns, n.kind = kind ∧ n.index = index) :
    raiseInto kind index detail ns =
      ns.map fun n =>
        if n.kind = kind ∧ n.index = index then { n with count := min 255 (n.count + 1), detail := detail } else n := by
  rw [raiseInto_standing ((any_hasKey_iff kind index ns).mpr present)]
  simp only [Notice.hasKey_iff]

/-! ## The law of the set (R173) -/

/-- Entries that leave the set leave the law with the rest. -/
theorem NoticesSound.sublist {ns ms : List Notice} (sound : NoticesSound ns) (sub : ms.Sublist ns) : NoticesSound ms :=
  ⟨sound.1.sublist (sub.map _), fun n found => sound.2 n (sub.subset found)⟩

/-- A raise adds a key only where none stands. -/
theorem raiseInto_keys_nodup {ns : List Notice} (distinct : (ns.map fun n => (n.kind, n.index)).Nodup) (kind : NoticeKind)
    (index : Nat) (detail : Detail) : ((raiseInto kind index detail ns).map fun n => (n.kind, n.index)).Nodup := by
  rw [raiseInto_keys]
  split
  · exact distinct
  · next none =>
      refine (List.perm_append_singleton _ _).nodup_iff.mpr (List.nodup_cons.mpr ⟨fun standing => none ?_, distinct⟩)
      obtain ⟨n, found, key⟩ := List.mem_map.mp standing
      exact (any_hasKey_iff kind index ns).mpr ⟨n, found, Prod.mk.inj key⟩

/-- A raise of a key of its kind keeps the law. -/
theorem NoticesSound.raiseInto {ns : List Notice} (sound : NoticesSound ns) {kind : NoticeKind} {index : Nat}
    (key : index < kind.keys) (detail : Detail) : NoticesSound (raiseInto kind index detail ns) := by
  obtain ⟨distinct, entries⟩ := sound
  refine ⟨raiseInto_keys_nodup distinct kind index detail, fun n found => ?_⟩
  by_cases stands : ns.any (Notice.hasKey kind index) = true
  · rw [raiseInto_standing stands] at found
    obtain ⟨m, old, rfl⟩ := List.mem_map.mp found
    obtain ⟨inKind, positive, bounded⟩ := entries m old
    split
    · exact ⟨inKind, by dsimp only; omega, Nat.min_le_left _ _⟩
    · exact ⟨inKind, positive, bounded⟩
  · rw [raiseInto_new (Bool.eq_false_iff.mpr stands)] at found
    rcases List.mem_append.mp found with old | new
    · exact entries n old
    · rw [List.mem_singleton.mp new]
      exact ⟨key, Nat.le_refl 1, Nat.le_add_left 1 254⟩

theorem noticesSound_nil : NoticesSound [] := ⟨List.nodup_nil, nofun⟩

/-- What leads from s to t keeps the law of the Notice Set. -/
def NoticesKept (s t : State) : Prop := NoticesSound s.notices → NoticesSound t.notices

namespace NoticesKept

variable {s t u : State}

theorem refl (s : State) : NoticesKept s s := id

theorem trans (first : NoticesKept s t) (second : NoticesKept t u) : NoticesKept s u := second ∘ first

theorem of_same (same : t.notices = s.notices) : NoticesKept s t := fun sound => same ▸ sound

/-- A raise of a key of its kind. -/
theorem raise (s : State) {k : NoticeKind} {i : Nat} (key : i < k.keys) (d : Detail) : NoticesKept s (s.raise k i d) :=
  fun sound => sound.raiseInto key d

/-- A change of other parts first. -/
theorem after (kept : NoticesKept t u) (same : t.notices = s.notices) : NoticesKept s u := (of_same same).trans kept

/-- A raise as other parts change. -/
theorem raiseAfter (same : t.notices = s.notices) {k : NoticeKind} {i : Nat} (key : i < k.keys) (d : Detail) :
    NoticesKept s (t.raise k i d) :=
  .after (.raise t key d) same

/-- The cases of a test. -/
theorem ite {test : Prop} [Decidable test] (passed : NoticesKept s t) (failed : NoticesKept s u) :
    NoticesKept s (if test then t else u) := by
  split
  · exact passed
  · exact failed

/-- A fault cause raises FAULT for its axis or nothing (R116, R117). -/
theorem raiseFault (s : State) (a : Fin Config.axisCount) (c : Cause) : NoticesKept s (s.raiseFault a c).1 := by
  unfold State.raiseFault
  dsimp only
  split
  · exact .refl s
  · split
    · exact .refl s
    · exact .raiseAfter rfl a.isLt _
  · split
    · exact .refl s
    · exact .raiseAfter rfl a.isLt _
  all_goals exact .raiseAfter rfl a.isLt _

/-- A test under which a fault cause is taken. -/
theorem raiseFaultWhere (s : State) (a : Fin Config.axisCount) (c : Cause) (test : Prop) [Decidable test] :
    NoticesKept s (if test then s.raiseFault a c else (s, [])).1 := by
  split
  · exact .raiseFault s a c
  · exact .refl s

end NoticesKept

theorem settle_noticesKept (s : State) : NoticesKept s s.settle := fun sound => sound.sublist (settle_notices s)

/-! ## Discards, buffers and frames received (R158 to R161, R166) -/

theorem discard_noticesKept (s : State) (port : Port) (reason : LinkReason) : NoticesKept s (s.discard port reason) := by
  cases port <;> exact .raiseAfter rfl Nat.one_pos _

theorem placeDownstream_noticesKept (s : State) (f : Frame) : NoticesKept s (s.placeDownstream f) :=
  .ite (.of_same rfl) (discard_noticesKept s _ _)

theorem placeUpstream_noticesKept (s : State) (f : Frame) : NoticesKept s (s.placeUpstream f) :=
  .ite (.of_same rfl) (discard_noticesKept s _ _)

theorem admitRequest_noticesKept (s : State) (payload : List Byte) : NoticesKept s (admitRequest s payload) := by
  unfold admitRequest
  split
  · exact .ite (.of_same rfl) (.raise s Nat.one_pos _)
  all_goals exact discard_noticesKept s _ _

theorem receiveCheck_noticesKept {s u : State} {port : Port} {f : Frame} (failed : receiveCheck s port f = some u) :
    NoticesKept s u := by
  unfold receiveCheck at failed
  split at failed
  · cases failed
  all_goals
    obtain rfl := Option.some.inj failed
    exact .after (discard_noticesKept _ _ _) rfl

/-! ## Syncs and cadence (R7, R12, R15, R16, R35) -/

theorem applySync_noticesKept (s : State) : NoticesKept s (applySync s) := by
  unfold applySync
  split
  · exact .of_same rfl
  · unfold advanceEpoch
    exact .ite (.raiseAfter rfl Nat.one_pos _) (.ite (.raiseAfter rfl Nat.one_pos _) (.of_same rfl))

theorem issueEvaluation_noticesKept (s : State) : NoticesKept s (issueEvaluation s) := by
  intro sound
  rw [issueEvaluation_notices]
  split
  · exact sound.raiseInto Nat.one_pos _
  · exact sound

theorem takeSync_noticesKept (s : State) : NoticesKept s (takeSync s) := by
  refine (applySync_noticesKept s).trans ?_
  unfold takeSync
  dsimp only
  split
  · exact .raise _ Nat.one_pos _
  · exact issueEvaluation_noticesKept _

theorem cadenceStep_noticesKept (s : State) : NoticesKept s (cadenceStep s) := by
  intro sound
  rw [cadenceStep_eq]
  dsimp only
  split
  · exact sound.raiseInto Nat.one_pos _
  · exact sound

theorem externalSync_noticesKept (s : State) : NoticesKept s (externalSync s) :=
  (cadenceStep_noticesKept s).trans (takeSync_noticesKept _)

theorem loseCadence_noticesKept (s : State) : NoticesKept s (loseCadence s) := .raiseAfter rfl Nat.one_pos _

/-! ## Cue actions and firings (R153 to R156) -/

/-- An action that is not refused: NOTE raises CUE for the firing channel, and the others raise nothing (R155). -/
theorem runAction_noticesKept {s t : State} {firing : Fin Config.channelCount} {action : CueAction}
    (runs : runAction s firing action = some t) : NoticesKept s t := by
  cases action with
  | none =>
      obtain rfl := Option.some.inj runs
      exact .refl s
  | axisSource | clockRate | watchLoad | epochWatchSet | channelArm =>
      obtain ⟨_, rfl⟩ := passed_of_guarded runs
      exact .of_same rfl
  | axisOffset | axisScale | channelDisarm =>
      obtain rfl := Option.some.inj runs
      exact .of_same rfl
  | axisState a stop =>
      cases stop with
      | true =>
          obtain ⟨_, rfl⟩ := passed_of_guarded (u := (stopAxis s a).state) runs
          exact .of_same (by rw [stopAxis_frame])
      | false =>
          obtain ⟨_, rfl⟩ := passed_of_guarded (u := (trackAxis s a).state) runs
          exact .of_same (by rw [trackAxis_frame])
  | note code =>
      obtain rfl := Option.some.inj runs
      exact .raise s firing.isLt _

theorem stepChannel_noticesKept (s : State) (c : Fin Config.channelCount) : NoticesKept s (stepChannel s c) :=
  .ite (.raiseAfter rfl c.isLt _) (.of_same rfl)

/-- The action at the cursor, executed or refused, and the step of the channel (R153, R156). -/
theorem fire_noticesKept (s : State) (c : Fin Config.channelCount) : NoticesKept s (fire s c) := by
  have acts : NoticesKept s (acted s c) := by
    unfold acted
    split
    · next runs => exact runAction_noticesKept runs
    · exact .raise s c.isLt _
  exact .ite acts (acts.trans (stepChannel_noticesKept _ c))

theorem service_noticesKept (s : State) (t : Trigger) : NoticesKept s (service s t) :=
  List.foldlRecOn _ _ (.refl s) fun u kept c _ => kept.trans (.ite (fire_noticesKept u c) (.refl u))

theorem handOccurrence_noticesKept (s : State) (t : Trigger) : NoticesKept s (handOccurrence s t) :=
  .ite (.ite (.refl s) (.of_same rfl)) (service_noticesKept s t)

/-! ## FEEDBACK (R126 to R134, R151) -/

theorem refreshSwitches_noticesKept (s : State) (a : Fin Config.axisCount) (r : FeedbackRecord) :
    NoticesKept s (refreshSwitches s a r).1 := by
  unfold refreshSwitches
  dsimp only
  refine NoticesKept.trans ?_ (.raiseFaultWhere _ a .homeLimit _)
  exact .ite (.raiseAfter rfl a.isLt _) (.of_same rfl)

theorem matchRecord_noticesKept (s : State) (a : Fin Config.axisCount) (cycle : BitVec 8) (r : FeedbackRecord) :
    NoticesKept s (matchRecord s a cycle r).1 := by
  unfold matchRecord
  dsimp only
  split
  · exact .refl s
  · exact .after (.raiseFaultWhere _ a .following _) rfl

theorem handleRecord_noticesKept (s : State) (a : Fin Config.axisCount) (cycle : BitVec 8) (r : FeedbackRecord) :
    NoticesKept s (handleRecord s a cycle r).1 := by
  have two : NoticesKept s (refreshSwitches (s.setAxis a (storeActual (s.axis a) r)) a r).1 :=
    .after (refreshSwitches_noticesKept _ a r) rfl
  have five (u : State) : NoticesKept u (faultRecord u a r).1 := .raiseFaultWhere u a .driveFault _
  have six (u : State) : NoticesKept u (limitRecord u a).1 := .raiseFaultWhere u a .hardLimit _
  unfold handleRecord
  dsimp only
  split
  · exact two
  · exact ((two.trans (matchRecord_noticesKept _ a cycle r)).trans (five _)).trans (six _)

theorem takeRecord_noticesKept (node : Nat) (cycle : BitVec 8) (s : State) (r : FeedbackRecord) :
    NoticesKept s (takeRecord node cycle s r) := by
  unfold takeRecord
  split
  · exact .refl s
  · next a _ =>
      exact List.foldlRecOn _ _ (handleRecord_noticesKept s a cycle r) fun u kept t _ =>
        kept.trans (handOccurrence_noticesKept u t)

theorem takeFeedback_noticesKept (s : State) (node : Nat) (payload : List Byte) :
    NoticesKept s (takeFeedback s node payload) := by
  unfold takeFeedback
  split
  · exact .refl s
  · exact List.foldlRecOn _ _ (.refl s) fun u kept r _ => kept.trans (takeRecord_noticesKept node _ u r)

theorem dispatchU_noticesKept (s : State) (f : Frame) : NoticesKept s (dispatchU s f) :=
  .ite (discard_noticesKept s _ _) <| .ite (placeDownstream_noticesKept s f) <| .ite (externalSync_noticesKept s) <|
    .ite (admitRequest_noticesKept s _) (discard_noticesKept s _ _)

theorem dispatchD_noticesKept (s : State) (f : Frame) : NoticesKept s (dispatchD s f) :=
  .ite (discard_noticesKept s _ _) <|
    .ite ((takeFeedback_noticesKept s _ _).trans (placeUpstream_noticesKept _ f)) (placeUpstream_noticesKept s f)

/-! ## The stages of an evaluation (R51 to R53, R114, R115, R123) -/

theorem NoticesSound.seamNotices {ns : List Notice} (sound : NoticesSound ns) (b : Bank) (d : Descriptor)
    (body : Fin Config.bodyCount) (i j : Nat) : NoticesSound (seamNotices b d body i j ns) := by
  unfold Sys2Proof.Machine.seamNotices
  dsimp only
  split
  · exact sound.raiseInto body.isLt _
  · exact sound

/-- The rows of R50. -/
theorem NoticesSound.changeNotices {ns : List Notice} (sound : NoticesSound ns) (b : Bank) (d : Descriptor)
    (body : Fin Config.bodyCount) (x : Body) (found : Option Nat) : NoticesSound (changeNotices b d body x found ns) := by
  unfold Sys2Proof.Machine.changeNotices
  split
  · split
    · exact sound
    · exact sound.seamNotices b d body _ _
  · exact sound.raiseInto body.isLt _
  · exact sound.raiseInto body.isLt _
  · exact sound

theorem evaluateOneBody_noticesKept (s : State) (ev : Evaluation) (body : Fin Config.bodyCount) :
    NoticesKept s (evaluateOneBody s ev body) := by
  intro sound
  rw [evaluateOneBody_eq]
  show NoticesSound (noticesAfter s ev body)
  unfold noticesAfter
  dsimp only
  split
  · exact sound
  · exact sound.changeNotices _ _ body _ _

theorem endShaping_noticesKept (s : State) (a : Fin Config.axisCount) (y : Axis) : NoticesKept s (endShaping s a y).1 := by
  intro sound
  rw [endShaping_eq]
  show NoticesSound (endedNotices a y s.notices)
  unfold endedNotices
  split
  · exact sound.raiseInto a.isLt _
  split
  · exact sound.raiseInto a.isLt _
  split
  · exact sound.raiseInto a.isLt _
  · exact sound

theorem emitMiss_noticesKept (s : State) (r : Setpoint) : NoticesKept s (emitMiss s r).1 := by
  unfold emitMiss
  dsimp only
  split
  · exact .after (.raiseFaultWhere _ r.axis .feedbackLost _) rfl
  · exact .refl s

/-- The limit test and the miss test of an axis raise FAULT; its record raises nothing (R123). -/
theorem emitAxis_noticesKept (cycle : BitVec 8) (s : State) (r : Setpoint) : NoticesKept s (emitAxis cycle s r) := by
  have limit : NoticesKept s (emitLimit s r).1 := .raiseFaultWhere s r.axis .hardLimit _
  exact (limit.trans (emitMiss_noticesKept _ r)).trans (.of_same rfl)

theorem completeIfServiced_notices (s : State) : s.completeIfServiced.notices = s.notices := by
  rw [completeIfServiced_frame]

theorem emitSetpoint_noticesKept (s : State) (ev : Evaluation) : NoticesKept s (emitSetpoint s ev) := by
  have tested : NoticesKept s (ev.records.foldl (emitAxis (s.cycle + 1)) { s with cycle := s.cycle + 1 }) :=
    List.foldlRecOn _ _ (.of_same rfl) fun u kept r _ => kept.trans (emitAxis_noticesKept _ u r)
  exact tested.trans (.of_same (completeIfServiced_notices _))

end Sys2Proof.Machine

end

section
/-! The rules of the requests leave the Notice Set as it stands, and every step keeps its law (R173, R174). -/

namespace Sys2Proof.Machine

/-! ## The rules of the requests -/

section requests

variable (r : Request) (s : State)

theorem runReadStatus_notices : (runReadStatus r s).state.notices = s.notices := by
  unfold runReadStatus
  dsimp only
  repeat' split
  all_goals rfl

theorem runSetEpoch_notices : (runSetEpoch r s).state.notices = s.notices := by
  unfold runSetEpoch
  dsimp only
  split <;> rfl

theorem runSetRate_notices : (runSetRate r s).state.notices = s.notices := by
  unfold runSetRate
  dsimp only
  split <;> rfl

theorem runSetEpochWatch_notices : (runSetEpochWatch r s).state.notices = s.notices := by
  unfold runSetEpochWatch
  dsimp only
  split <;> rfl

theorem runSetCadence_notices : (runSetCadence r s).state.notices = s.notices := by
  unfold runSetCadence
  dsimp only
  split <;> rfl

theorem runSetSite_notices : (runSetSite r s).state.notices = s.notices := by
  unfold runSetSite
  dsimp only
  split <;> rfl

theorem runReadAxis_notices : (runReadAxis r s).state.notices = s.notices := by
  unfold runReadAxis
  dsimp only
  repeat' split
  all_goals rfl

theorem writeAxisItems_notices (a : Fin Config.axisCount) (items : Items) :
    (writeAxisItems s a items).state.notices = s.notices := by
  unfold writeAxisItems
  dsimp only
  repeat' split
  all_goals rfl

theorem runWriteAxis_notices : (runWriteAxis r s).state.notices = s.notices := by
  unfold runWriteAxis
  dsimp only
  split
  · rfl
  split
  · rfl
  · exact writeAxisItems_notices s _ _

theorem runLoadSegments_notices : (runLoadSegments r s).state.notices = s.notices := by
  unfold runLoadSegments
  dsimp only
  repeat' split
  all_goals rfl

theorem runWriteBody_notices : (runWriteBody r s).state.notices = s.notices := by
  unfold runWriteBody
  repeat' split
  all_goals rfl

theorem runReadSegments_notices : (runReadSegments r s).state.notices = s.notices := by
  unfold runReadSegments
  dsimp only
  repeat' split
  all_goals rfl

theorem runReadBody_notices : (runReadBody r s).state.notices = s.notices := by
  unfold runReadBody
  repeat' split
  all_goals rfl

theorem scheduleSwap_notices (swap : SwapState) : (scheduleSwap s swap).state.notices = s.notices := by
  unfold scheduleSwap
  repeat' split
  all_goals rfl

theorem runSwapBanks_notices : (runSwapBanks r s).state.notices = s.notices := by
  unfold runSwapBanks
  dsimp only
  split
  · exact scheduleSwap_notices s _
  · split
    · exact scheduleSwap_notices s _
    · rfl
  · rfl

theorem runCancelSwap_notices : (runCancelSwap r s).state.notices = s.notices := by
  unfold runCancelSwap
  repeat' split
  all_goals rfl

theorem runWriteCues_notices : (runWriteCues r s).state.notices = s.notices := by
  unfold runWriteCues
  dsimp only
  repeat' split
  all_goals rfl

theorem onChannel_notices {run : Request → State → Fin Config.channelCount → Answer}
    (same : ∀ c, (run r s c).state.notices = s.notices) : (onChannel run r s).state.notices = s.notices := by
  unfold onChannel
  split
  · rfl
  split
  · rfl
  · exact same _

theorem writeChannel_notices (c : Fin Config.channelCount) : (writeChannel r s c).state.notices = s.notices := by
  unfold writeChannel
  repeat' split
  all_goals rfl

theorem armChannel_notices (c : Fin Config.channelCount) : (armChannel r s c).state.notices = s.notices := by
  unfold armChannel
  repeat' split
  all_goals rfl

theorem disarmChannel_notices (c : Fin Config.channelCount) : (disarmChannel r s c).state.notices = s.notices := by
  unfold disarmChannel
  split <;> rfl

theorem runEnterShow_notices : (runEnterShow r s).state.notices = s.notices := by
  unfold runEnterShow
  repeat' split
  all_goals rfl

theorem runEnterSetup_notices : (runEnterSetup r s).state.notices = s.notices := by
  unfold runEnterSetup
  split <;> rfl

/-- The rule of an axis command writes the axes alone (R104 to R110). -/
theorem commandRule_notices {code : Byte} {run : State → Fin Config.axisCount → Answer} (named : commandRule code = some run)
    (a : Fin Config.axisCount) : (run s a).state.notices = s.notices := by
  unfold commandRule at named
  split at named
  case h_7 => cases named
  all_goals obtain rfl := Option.some.inj named
  case h_4 => rw [trackAxis_frame]
  case h_5 => rw [stopAxis_frame]
  case' h_1 => unfold enableAxis
  case' h_2 => unfold disableAxis
  case' h_3 => unfold homeAxis
  case' h_6 => unfold clearFaultAxis
  all_goals
    dsimp only
    repeat' split
    all_goals rfl

theorem command_notices {code : Byte} {run : State → Fin Config.axisCount → Answer} (named : commandRule code = some run) :
    (onAxis run r s).state.notices = s.notices := by
  unfold onAxis
  split
  · split
    · exact commandRule_notices s named _
    · rfl
  · rfl

theorem runAxisCommand_notices : (runAxisCommand r s).state.notices = s.notices := by
  unfold runAxisCommand
  split
  · split
    · next named => exact command_notices r s named
    · rfl
  · rfl

/-- The soft reset empties the Notice Set (R171). -/
theorem runSoftReset_noticesKept : NoticesKept s (runSoftReset r s).state := by
  unfold runSoftReset
  split
  · exact .refl s
  · exact fun _ => noticesSound_nil

end requests

/-! ## Every command and every step -/

section commands

variable {s t u : State}

theorem done_noticesKept (outcome : done u = .next t) (kept : NoticesKept s u) : NoticesKept s t := by
  obtain rfl := Host.Outcome.next.inj outcome
  exact kept.trans (settle_noticesKept u)

theorem notDue_noticesKept (outcome : notDue s = .next t) : NoticesKept s t := by
  obtain rfl := Host.Outcome.next.inj outcome
  exact .refl s

/-- An execution keeps the law where its rule does: its REPLY is no notice. -/
theorem execute_noticesKept {mine : Request → Bool} {waits : Bool} {run : Request → State → Answer}
    (kept : ∀ r, NoticesKept s (run r s).state) (outcome : execute mine waits run s = .next t) : NoticesKept s t := by
  unfold execute at outcome
  split at outcome
  · exact notDue_noticesKept outcome
  · next r _ _ =>
      split at outcome
      · exact done_noticesKept outcome (kept r)
      · exact notDue_noticesKept outcome

/-- A rule that leaves the Notice Set as it stands. -/
theorem execute_sameNotices {mine : Request → Bool} {waits : Bool} {run : Request → State → Answer}
    (same : ∀ r, (run r s).state.notices = s.notices) (outcome : execute mine waits run s = .next t) : NoticesKept s t :=
  execute_noticesKept (fun r => .of_same (same r)) outcome

theorem execUFrameReceived_noticesKept {f : Frame} (outcome : execUFrameReceived f s = .next t) : NoticesKept s t := by
  unfold execUFrameReceived at outcome
  split at outcome
  · next failed => exact done_noticesKept outcome (receiveCheck_noticesKept failed)
  · exact done_noticesKept outcome (dispatchU_noticesKept s f)

theorem execDFrameReceived_noticesKept {f : Frame} (outcome : execDFrameReceived f s = .next t) : NoticesKept s t := by
  unfold execDFrameReceived at outcome
  split at outcome
  · next failed => exact done_noticesKept outcome (receiveCheck_noticesKept failed)
  · exact done_noticesKept outcome (dispatchD_noticesKept s f)

theorem execDTransmitEnd_noticesKept (outcome : execDTransmitEnd s = .next t) : NoticesKept s t := by
  unfold execDTransmitEnd at outcome
  split at outcome
  · exact done_noticesKept outcome (.of_same rfl)
  · exact notDue_noticesKept outcome

theorem execUTransmitEnd_noticesKept (outcome : execUTransmitEnd s = .next t) : NoticesKept s t := by
  unfold execUTransmitEnd at outcome
  split at outcome
  · exact done_noticesKept outcome (.of_same rfl)
  · exact notDue_noticesKept outcome

theorem execCadenceLoss_noticesKept (outcome : execCadenceLoss s = .next t) : NoticesKept s t := by
  unfold execCadenceLoss at outcome
  split at outcome
  · exact done_noticesKept outcome (loseCadence_noticesKept s)
  all_goals exact notDue_noticesKept outcome

theorem execLocalSync_noticesKept (outcome : execLocalSync s = .next t) : NoticesKept s t := by
  unfold execLocalSync at outcome
  split at outcome
  · exact done_noticesKept outcome (.after (takeSync_noticesKept _) rfl)
  all_goals exact notDue_noticesKept outcome

theorem execBodyEvaluation_noticesKept (outcome : execBodyEvaluation s = .next t) : NoticesKept s t := by
  unfold execBodyEvaluation at outcome
  split at outcome
  · exact notDue_noticesKept outcome
  split at outcome
  · exact done_noticesKept outcome ((evaluateOneBody_noticesKept s _ _).trans (.of_same rfl))
  all_goals exact notDue_noticesKept outcome

theorem execTargetMapping_noticesKept (outcome : execTargetMapping s = .next t) : NoticesKept s t := by
  unfold execTargetMapping at outcome
  split at outcome
  · exact notDue_noticesKept outcome
  split at outcome
  · exact done_noticesKept outcome (.of_same rfl)
  all_goals exact notDue_noticesKept outcome

theorem execAxisShaping_noticesKept (outcome : execAxisShaping s = .next t) : NoticesKept s t := by
  unfold execAxisShaping at outcome
  split at outcome
  · exact notDue_noticesKept outcome
  split at outcome
  · split at outcome
    · exact done_noticesKept outcome ((endShaping_noticesKept s _ _).trans (.of_same rfl))
    · exact notDue_noticesKept outcome
  all_goals exact notDue_noticesKept outcome

theorem execSetpointEmission_noticesKept (outcome : execSetpointEmission s = .next t) : NoticesKept s t := by
  unfold execSetpointEmission at outcome
  split at outcome
  · exact notDue_noticesKept outcome
  split at outcome
  · split at outcome
    · exact done_noticesKept outcome (emitSetpoint_noticesKept s _)
    · exact notDue_noticesKept outcome
  all_goals exact notDue_noticesKept outcome

theorem execOccurrenceService_noticesKept (outcome : execOccurrenceService s = .next t) : NoticesKept s t := by
  unfold execOccurrenceService at outcome
  split at outcome
  · split at outcome
    · have completed (u : State) : NoticesKept u u.completeIfServiced := .of_same (completeIfServiced_notices u)
      exact done_noticesKept outcome (.after ((service_noticesKept _ _).trans (completed _)) rfl)
    · exact done_noticesKept outcome (.of_same (completeIfServiced_notices s))
    all_goals exact notDue_noticesKept outcome
  · split at outcome
    · exact done_noticesKept outcome (.after (service_noticesKept _ _) rfl)
    · exact notDue_noticesKept outcome

/-- Every command keeps the law of the Notice Set. -/
theorem exec_noticesKept {i : Instr} (outcome : exec i s = .next t) : NoticesKept s t := by
  cases i with
  | powerOnReset => exact done_noticesKept (u := powerOnState s) outcome fun _ => noticesSound_nil
  | uFrameReceived f => exact execUFrameReceived_noticesKept outcome
  | dFrameReceived f => exact execDFrameReceived_noticesKept outcome
  | cadenceLoss => exact execCadenceLoss_noticesKept outcome
  | localSync => exact execLocalSync_noticesKept outcome
  | bodyEvaluation => exact execBodyEvaluation_noticesKept outcome
  | targetMapping => exact execTargetMapping_noticesKept outcome
  | axisShaping => exact execAxisShaping_noticesKept outcome
  | setpointEmission => exact execSetpointEmission_noticesKept outcome
  | occurrenceService => exact execOccurrenceService_noticesKept outcome
  | dTransmitEnd => exact execDTransmitEnd_noticesKept outcome
  | uTransmitEnd => exact execUTransmitEnd_noticesKept outcome
  | unknownRequest => exact execute_sameNotices (run := runUnknown) (fun _ => rfl) outcome
  | readStatus => exact execute_sameNotices (fun r => runReadStatus_notices r s) outcome
  | setEpoch => exact execute_sameNotices (fun r => runSetEpoch_notices r s) outcome
  | setRate => exact execute_sameNotices (fun r => runSetRate_notices r s) outcome
  | setEpochWatch => exact execute_sameNotices (fun r => runSetEpochWatch_notices r s) outcome
  | setCadence => exact execute_sameNotices (fun r => runSetCadence_notices r s) outcome
  | setSite => exact execute_sameNotices (fun r => runSetSite_notices r s) outcome
  | readAxis => exact execute_sameNotices (fun r => runReadAxis_notices r s) outcome
  | writeAxis => exact execute_sameNotices (fun r => runWriteAxis_notices r s) outcome
  | enable => exact execute_sameNotices (fun r => command_notices r s (code := 0) rfl) outcome
  | disable => exact execute_sameNotices (fun r => command_notices r s (code := 1) rfl) outcome
  | home => exact execute_sameNotices (fun r => command_notices r s (code := 2) rfl) outcome
  | track => exact execute_sameNotices (fun r => command_notices r s (code := 3) rfl) outcome
  | stop => exact execute_sameNotices (fun r => command_notices r s (code := 4) rfl) outcome
  | clearFault => exact execute_sameNotices (fun r => command_notices r s (code := 5) rfl) outcome
  | readBody => exact execute_sameNotices (fun r => runReadBody_notices r s) outcome
  | writeBody => exact execute_sameNotices (fun r => runWriteBody_notices r s) outcome
  | loadSegments => exact execute_sameNotices (fun r => runLoadSegments_notices r s) outcome
  | readSegments => exact execute_sameNotices (fun r => runReadSegments_notices r s) outcome
  | swapBanks => exact execute_sameNotices (fun r => runSwapBanks_notices r s) outcome
  | cancelSwap => exact execute_sameNotices (fun r => runCancelSwap_notices r s) outcome
  | writeCues => exact execute_sameNotices (fun r => runWriteCues_notices r s) outcome
  | writeChannel => exact execute_sameNotices (fun r => onChannel_notices r s (writeChannel_notices r s)) outcome
  | armChannel => exact execute_sameNotices (fun r => onChannel_notices r s (armChannel_notices r s)) outcome
  | disarmChannel => exact execute_sameNotices (fun r => onChannel_notices r s (disarmChannel_notices r s)) outcome
  | enterShow => exact execute_sameNotices (fun r => runEnterShow_notices r s) outcome
  | enterSetup => exact execute_sameNotices (fun r => runEnterSetup_notices r s) outcome
  | softReset => exact execute_noticesKept (fun r => runSoftReset_noticesKept r s) outcome
  | axisCommand => exact execute_sameNotices (fun r => runAxisCommand_notices r s) outcome

/-- Every step keeps the law: the queue of commands, from which it takes the front one, is no part of it. -/
theorem step_noticesKept (stepped : step s = .next t) : NoticesKept s t := by
  unfold step at stepped
  split at stepped
  · exact notDue_noticesKept stepped
  · next rest _ => exact exec_noticesKept (s := { s with pending := rest }) stepped

end commands

/-- Settles O58: a raise by whether an entry stands for its key, and the law of the set by what every step keeps. -/
theorem noticesStaySound : Obligations.NoticesStaySound :=
  ⟨fun _ _ detail _ => ⟨raiseInto_of_absent detail, raiseInto_of_present detail⟩, standing_iff,
    fun _ _ sound stepped => step_noticesKept stepped sound⟩

end Sys2Proof.Machine

end

section
/-! The step and the queue of commands (log entry 1). -/

namespace Sys2Proof.Machine

/-- Where commands wait, the step is the execution of the front one with the queue's rest. -/
theorem step_of_pending_cons {s : State} {c : Instr} {rest : List Instr} (waiting : s.pending = c :: rest) :
    step s = exec c { s with pending := rest } := by
  unfold step
  rw [waiting]

/-- Settles O1: in the state with the command put before the rest, that command is the front one, and its removal leaves only the
rest in the queue. -/
theorem stepTakesFrontCommand : Obligations.StepTakesFrontCommand :=
  fun c rest s => step_of_pending_cons (s := { s with pending := c :: rest }) rfl

end Sys2Proof.Machine

end


section
/-! Fault causes: what one cause does to its axis by the state of the axis, and what the causes found by one round of tests leave of
it (R116, R117). -/

namespace Sys2Proof.Machine

/-- An axis in a live state: a fault cause is a fault entry for it (R116). -/
abbrev Axis.Live (x : Axis) : Prop := x.state ≠ .off ∧ x.state ≠ .halting ∧ x.state ≠ .faulted

/-- An axis that has faulted: a new cause joins its record (R117). -/
abbrev Axis.Failing (x : Axis) : Prop := x.state = .halting ∨ x.state = .faulted

/-- An axis is OFF, failing or live. -/
theorem Axis.state_cases (x : Axis) : x.state = .off ∨ x.Failing ∨ x.Live := by
  by_cases off : x.state = .off
  · exact .inl off
  · by_cases failing : x.Failing
    · exact .inr (.inl failing)
    · exact .inr (.inr ⟨off, not_or.mp failing⟩)

theorem Axis.Failing.not_off {x : Axis} (failing : x.Failing) : x.state ≠ .off := by
  rcases failing with state | state <;> simp [state]

theorem Axis.Failing.not_live {x : Axis} (failing : x.Failing) : ¬x.Live := fun live =>
  failing.elim live.2.1 live.2.2

/-! ## One cause -/

section cause

variable {s : State} {a : Fin Config.axisCount} {c : Cause}

theorem raiseFault_of_off (off : (s.axis a).state = .off) : s.raiseFault a c = (s, []) := by
  simp only [State.raiseFault, off]

theorem raiseFault_of_seen (failing : (s.axis a).Failing) (seen : c ∈ (s.axis a).causes) : s.raiseFault a c = (s, []) := by
  rcases failing with state | state <;> simp only [State.raiseFault, state, seen, if_true]

theorem raiseFault_of_unseen (failing : (s.axis a).Failing) (unseen : c ∉ (s.axis a).causes) :
    s.raiseFault a c =
      ((s.setAxis a
          { s.axis a with
            causes := (s.axis a).causes ++ [c], homed := (s.axis a).homed && !c.clearsHomed }).raise .fault a.val (.fault c),
        []) := by
  rcases failing with state | state <;> simp only [State.raiseFault, state, unseen, if_false]

theorem raiseFault_of_live (live : (s.axis a).Live) :
    s.raiseFault a c =
      ((s.setAxis a
          { s.axis a with
            state := .halting, causes := [c], homed := (s.axis a).homed && !c.clearsHomed }).raise .fault a.val (.fault c),
        [{ kind := .axisEvent, index := a.val }]) := by
  obtain ⟨off, halting, faulted⟩ := live
  cases state : (s.axis a).state with
  | off => exact absurd state off
  | halting => exact absurd state halting
  | faulted => exact absurd state faulted
  | _ => simp only [State.raiseFault, state]

end cause

/-- The causes that clear HOMED are the drive fault and the feedback loss (R116). -/
theorem clearsHomed_eq (c : Cause) : c.clearsHomed = (decide (c = .driveFault) || decide (c = .feedbackLost)) := by
  cases c <;> rfl

/-- Settles O35: a cause by the state of its axis, and the writing of one axis of the vector. -/
theorem faultCauseTaken : Obligations.FaultCauseTaken := by
  refine ⟨fun s a y => ⟨fun b => State.axis_setAxis s a b y, rfl⟩, ?_⟩
  intro s a c x homed
  have cleared : homed = (x.homed && !c.clearsHomed) := by rw [clearsHomed_eq]
  rw [cleared]
  exact ⟨raiseFault_of_off, fun failing => ⟨raiseFault_of_seen failing, raiseFault_of_unseen failing⟩,
    fun off halting faulted => raiseFault_of_live ⟨off, halting, faulted⟩⟩

/-! ## The causes of one round of tests -/

/-- The causes of a round that are taken for an axis: all for a live one, those not yet seen for a failing one (R116, R117). -/
def Axis.added (x : Axis) (found : List Cause) : List Cause :=
  if x.Live then found else if x.Failing then found.filter fun c => decide (c ∉ x.causes) else []

/-- The axis after the causes of a round, whatever their tests wrote into its drive record. -/
def Axis.judged (x : Axis) (found : List Cause) (d : Drive) : Axis :=
  { x with
    state := if x.Live ∧ found ≠ [] then .halting else x.state,
    homed := x.homed && !(x.added found).any Cause.clearsHomed,
    causes := if x.Live ∧ found ≠ [] then found else if x.Live then x.causes else x.causes ++ x.added found, drive := d }

/-- The AXIS_EVENT of a fault entry (R116). -/
def Axis.entryTriggers (x : Axis) (a : Fin Config.axisCount) (found : List Cause) : List Trigger :=
  if x.Live ∧ found ≠ [] then [{ kind := .axisEvent, index := a.val }] else []

/-- The Notice Set after FAULT is raised for each of the causes in turn. -/
def faultNotices (a : Fin Config.axisCount) (causes : List Cause) (ns : List Notice) : List Notice :=
  causes.foldl (fun ns c => raiseInto .fault a.val (.fault c) ns) ns

/-- A round of tests of the axis a in s has found these causes: p is what they leave, with the triggers they give. -/
structure Judged (a : Fin Config.axisCount) (s : State) (found : List Cause) (d : Drive) (p : State × List Trigger) : Prop where
  axis : p.1.axis a = (s.axis a).judged found d
  notices : p.1.notices = faultNotices a ((s.axis a).added found) s.notices
  triggers : p.2 = (s.axis a).entryTriggers a found

theorem Axis.not_live_of_off {x : Axis} (off : x.state = .off) : ¬x.Live := fun live => live.1 off

section added

variable {x : Axis} {found : List Cause} {c : Cause} {d : Drive} {a : Fin Config.axisCount}

theorem Axis.added_of_off (off : x.state = .off) : x.added found = [] := by
  rw [Axis.added, if_neg (Axis.not_live_of_off off), if_neg fun failing => failing.not_off off]

theorem Axis.added_of_failing (failing : x.Failing) : x.added found = found.filter fun c => decide (c ∉ x.causes) := by
  rw [Axis.added, if_neg failing.not_live, if_pos failing]

theorem Axis.added_of_live (live : x.Live) : x.added found = found := if_pos live

theorem Axis.added_nil (x : Axis) : x.added [] = [] := by
  unfold Axis.added
  repeat' split
  all_goals rfl

/-- No entry is made for an axis that is not live. -/
theorem Axis.judged_of_not_live (idle : ¬x.Live) :
    x.judged found d =
      { x with
        homed := x.homed && !(x.added found).any Cause.clearsHomed, causes := x.causes ++ x.added found, drive := d } := by
  have none : ¬(x.Live ∧ found ≠ []) := fun both => idle both.1
  rw [Axis.judged, if_neg none, if_neg none, if_neg idle]

theorem Axis.judged_of_off (off : x.state = .off) : x.judged found d = { x with drive := d } := by
  simp [Axis.judged_of_not_live (Axis.not_live_of_off off), Axis.added_of_off off]

theorem Axis.judged_nil (x : Axis) (d : Drive) : x.judged [] d = { x with drive := d } := by
  simp [Axis.judged, Axis.added_nil]

theorem Axis.judged_of_live (live : x.Live) (entry : found ≠ []) :
    x.judged found d =
      { x with state := .halting, homed := x.homed && !found.any Cause.clearsHomed, causes := found, drive := d } := by
  rw [Axis.judged, if_pos ⟨live, entry⟩, if_pos ⟨live, entry⟩, Axis.added_of_live live]

theorem Axis.entryTriggers_of_not_live (idle : ¬x.Live) : x.entryTriggers a found = [] := if_neg fun both => idle both.1

theorem Axis.entryTriggers_nil (x : Axis) : x.entryTriggers a [] = [] := if_neg fun both => both.2 rfl

theorem Axis.entryTriggers_of_live (live : x.Live) (entry : found ≠ []) :
    x.entryTriggers a found = [{ kind := .axisEvent, index := a.val }] := if_pos ⟨live, entry⟩

end added

theorem faultNotices_append (a : Fin Config.axisCount) (causes : List Cause) (c : Cause) (ns : List Notice) :
    faultNotices a (causes ++ [c]) ns = raiseInto .fault a.val (.fault c) (faultNotices a causes ns) :=
  List.foldl_concat _ _ _ _

namespace Judged

variable {a : Fin Config.axisCount} {s : State} {found : List Cause} {d : Drive} {p : State × List Trigger}

/-- Before the first test. -/
theorem start (a : Fin Config.axisCount) (s : State) : Judged a s [] (s.axis a).drive (s, []) where
  axis := (Axis.judged_nil _ _).symm
  notices := by rw [Axis.added_nil]; rfl
  triggers := (Axis.entryTriggers_nil _).symm

theorem setDrive (judged : Judged a s found d p) (d' : Drive) :
    Judged a s found d' (p.1.setAxis a { p.1.axis a with drive := d' }, p.2) where
  axis := by rw [State.axis_setAxis_same, judged.axis]; rfl
  notices := judged.notices
  triggers := judged.triggers

section raiseFault

variable {c : Cause}

theorem raiseFault_of_off (judged : Judged a s found d p) (off : (s.axis a).state = .off) :
    Judged a s (found ++ [c]) d ((p.1.raiseFault a c).1, p.2 ++ (p.1.raiseFault a c).2) := by
  obtain ⟨axis, notices, triggers⟩ := judged
  have idle := Axis.not_live_of_off off
  rw [Axis.judged_of_off off] at axis
  rw [Axis.entryTriggers_of_not_live idle] at triggers
  have stays : (p.1.axis a).state = .off := by rw [axis]; exact off
  rw [Machine.raiseFault_of_off stays]
  refine ⟨?_, ?_, ?_⟩
  · rw [Axis.judged_of_off off, axis]
  · rw [notices, Axis.added_of_off off, Axis.added_of_off off]
  · rw [triggers, Axis.entryTriggers_of_not_live idle, List.append_nil]

/-- A failing axis takes the cause where neither its record nor the round holds it yet. -/
theorem raiseFault_of_failing (judged : Judged a s found d p) (new : c ∉ found) (failing : (s.axis a).Failing) :
    Judged a s (found ++ [c]) d ((p.1.raiseFault a c).1, p.2 ++ (p.1.raiseFault a c).2) := by
  obtain ⟨axis, notices, triggers⟩ := judged
  have idle := failing.not_live
  rw [Axis.judged_of_not_live idle] at axis
  rw [Axis.entryTriggers_of_not_live idle] at triggers
  have stays : (p.1.axis a).Failing := by rw [axis]; exact failing
  have record : (p.1.axis a).causes = (s.axis a).causes ++ (s.axis a).added found := by rw [axis]
  have seenBefore : c ∈ (p.1.axis a).causes ↔ c ∈ (s.axis a).causes := by
    simp [record, Axis.added_of_failing failing, new]
  by_cases seen : c ∈ (s.axis a).causes
  · have same : (s.axis a).added (found ++ [c]) = (s.axis a).added found := by simp [Axis.added_of_failing failing, seen]
    rw [raiseFault_of_seen stays (seenBefore.mpr seen)]
    refine ⟨?_, ?_, ?_⟩
    · rw [Axis.judged_of_not_live idle, same, axis]
    · rw [same, notices]
    · rw [triggers, Axis.entryTriggers_of_not_live idle, List.append_nil]
  · have grown : (s.axis a).added (found ++ [c]) = (s.axis a).added found ++ [c] := by
      simp [Axis.added_of_failing failing, seen]
    rw [raiseFault_of_unseen stays fun found => seen (seenBefore.mp found)]
    refine ⟨?_, ?_, ?_⟩
    · rw [Axis.judged_of_not_live idle, grown, State.axis_raise, State.axis_setAxis_same, axis]
      simp [Bool.and_assoc]
    · rw [grown, faultNotices_append, ← notices]
      rfl
    · rw [triggers, Axis.entryTriggers_of_not_live idle, List.append_nil]

/-- The first cause of a round makes the fault entry of a live axis, and the later ones join its record. -/
theorem raiseFault_of_live (judged : Judged a s found d p) (new : c ∉ found) (live : (s.axis a).Live) :
    Judged a s (found ++ [c]) d ((p.1.raiseFault a c).1, p.2 ++ (p.1.raiseFault a c).2) := by
  obtain ⟨axis, notices, triggers⟩ := judged
  have entry : found ++ [c] ≠ [] := by simp
  rw [Axis.added_of_live live] at notices
  by_cases first : found = []
  · subst first
    rw [Axis.judged_nil] at axis
    rw [Axis.entryTriggers_nil] at triggers
    have stays : (p.1.axis a).Live := by rw [axis]; exact live
    rw [Machine.raiseFault_of_live stays]
    refine ⟨?_, ?_, ?_⟩
    · rw [Axis.judged_of_live live entry, State.axis_raise, State.axis_setAxis_same, axis]
      simp
    · rw [Axis.added_of_live live, faultNotices_append, ← notices]
      rfl
    · rw [triggers, Axis.entryTriggers_of_live live entry, List.nil_append]
  · rw [Axis.judged_of_live live first] at axis
    rw [Axis.entryTriggers_of_live live first] at triggers
    have stays : (p.1.axis a).Failing := by rw [axis]; exact .inl rfl
    have record : (p.1.axis a).causes = found := by rw [axis]
    rw [raiseFault_of_unseen stays (record ▸ new)]
    refine ⟨?_, ?_, ?_⟩
    · rw [Axis.judged_of_live live entry, State.axis_raise, State.axis_setAxis_same, axis]
      simp [Bool.and_assoc]
    · rw [Axis.added_of_live live, faultNotices_append, ← notices]
      rfl
    · rw [triggers, Axis.entryTriggers_of_live live entry, List.append_nil]

/-- One more cause, which no test of the round has found before. -/
theorem raiseFault (judged : Judged a s found d p) (new : c ∉ found) :
    Judged a s (found ++ [c]) d ((p.1.raiseFault a c).1, p.2 ++ (p.1.raiseFault a c).2) := by
  rcases (s.axis a).state_cases with off | failing | live
  · exact judged.raiseFault_of_off off
  · exact judged.raiseFault_of_failing new failing
  · exact judged.raiseFault_of_live new live

end raiseFault

/-- One more test, which finds its cause or none. -/
theorem test (judged : Judged a s found d p) {c : Cause} (new : c ∉ found) (holds : Prop) [Decidable holds] :
    Judged a s (found ++ if holds then [c] else []) d
      ((if holds then p.1.raiseFault a c else (p.1, [])).1, p.2 ++ (if holds then p.1.raiseFault a c else (p.1, [])).2) := by
  split
  · exact judged.raiseFault new
  · simpa using judged

end Judged

end Sys2Proof.Machine
end

section
/-! Which requests wait, and what the execution of each request leaves as it stands (R102, R165, R166, R170). -/

namespace Sys2Proof.Machine

/-! ## The execution of a request -/

/-- What an execution answers: nothing has changed, or its request stood at the head of the queue and need not wait. -/
theorem execute_cases {mine : Request → Bool} {waits : Bool} {run : Request → State → Answer} {s t : State}
    (outcome : execute mine waits run s = .next t) :
    t = s ∨ ∃ r rest, s.mgmt.requests = r :: rest ∧ mine r = true ∧ (waits = true → s.eval = none) ∧
      t = ((run r s).state.answer r (run r s).result (run r s).content).settle := by
  unfold execute at outcome
  split at outcome
  · exact .inl (Host.Outcome.next.inj outcome).symm
  next r rest head =>
  split at outcome
  · next due =>
      simp only [Bool.and_eq_true, Bool.not_eq_true', Bool.and_eq_false_iff] at due
      obtain ⟨own, free⟩ := due
      refine .inr ⟨r, rest, head, own, fun held => ?_, (Host.Outcome.next.inj outcome).symm⟩
      rcases free with never | idle
      · rw [held] at never; cases never
      · exact Option.isSome_eq_false_iff.mp idle |> Option.isNone_iff_eq_none.mp
  · exact .inl (Host.Outcome.next.inj outcome).symm

/-- An answered request has changed the frames, the queues and the notices sent, beside what its rule has done. -/
theorem answer_settle_lineOnly (s : State) (r : Request) (code : ReplyCode) (content : List Byte) :
    LineOnly s (s.answer r code content).settle :=
  LineOnly.trans (t := s.answer r code content)
    ⟨rfl, rfl, rfl, rfl, rfl, fun _ => rfl, rfl, rfl, rfl, rfl, rfl, rfl, rfl, rfl⟩ (settle_lineOnly _)

/-- A claim on what a request does holds of what its execution leaves, but for the line, where it holds of its rule's state and, for
a request that is not executed, of the state that stands. -/
theorem execute_leaves {mine : Request → Bool} {waits : Bool} {run : Request → State → Answer} {s t : State} {P : State → Prop}
    (stands : P s)
    (runs : ∀ r rest, s.mgmt.requests = r :: rest → mine r = true → (waits = true → s.eval = none) → P (run r s).state)
    (outcome : execute mine waits run s = .next t) : ∃ u, P u ∧ LineOnly u t ∧ t.notices.Sublist u.notices := by
  rcases execute_cases outcome with rfl | ⟨r, rest, head, own, idle, rfl⟩
  · exact ⟨t, stands, .refl t, .refl _⟩
  · exact ⟨_, runs r rest head own idle, answer_settle_lineOnly _ r _ _, settle_notices _⟩

/-- A request held to the access rule changes nothing while an evaluation is in flight, nor where none stands in the queue. -/
theorem execute_of_waiting {mine : Request → Bool} {run : Request → State → Answer} {s : State}
    (waiting : s.eval ≠ none ∨ s.mgmt.requests = []) : execute mine true run s = .next s := by
  rcases waiting with busy | none
  · exact execute_held (Option.isSome_iff_ne_none.mpr busy)
  · exact execute_other fun r head => by rw [none] at head; cases head

theorem execute_of_no_request {mine : Request → Bool} {waits : Bool} {run : Request → State → Answer} {s : State}
    (none : s.mgmt.requests = []) : execute mine waits run s = .next s :=
  execute_other fun r head => by rw [none] at head; cases head

theorem execute_of_other {mine : Request → Bool} {waits : Bool} {run : Request → State → Answer} {s : State} {r : Request}
    {rest : List Request} (head : s.mgmt.requests = r :: rest) (other : mine r = false) : execute mine waits run s = .next s :=
  execute_other fun r' found => by
    rw [head] at found
    rwa [← Option.some.inj found]

/-! ## The rules that read -/

section rules

variable (r : Request) (s : State)

theorem runReadAxis_state : (runReadAxis r s).state = s := by
  unfold runReadAxis
  dsimp only
  repeat' split
  all_goals rfl

theorem runReadBody_state : (runReadBody r s).state = s := by
  unfold runReadBody
  dsimp only
  repeat' split
  all_goals rfl

theorem runReadSegments_state : (runReadSegments r s).state = s := by
  unfold runReadSegments
  dsimp only
  repeat' split
  all_goals rfl

/-! ## The rules that write one part -/

theorem runReadStatus_frame :
    (runReadStatus r s).state =
      { s with
        ring := { s.ring with
          errorsU := (runReadStatus r s).state.ring.errorsU, errorsD := (runReadStatus r s).state.ring.errorsD } } := by
  unfold runReadStatus
  dsimp only
  repeat' split
  all_goals rfl

theorem runSetEpoch_frame : (runSetEpoch r s).state = { s with clock := (runSetEpoch r s).state.clock } := by
  unfold runSetEpoch
  dsimp only
  split <;> rfl

theorem runSetRate_frame : (runSetRate r s).state = { s with clock := (runSetRate r s).state.clock } := by
  unfold runSetRate
  dsimp only
  split <;> rfl

theorem runSetEpochWatch_frame : (runSetEpochWatch r s).state = { s with clock := (runSetEpochWatch r s).state.clock } := by
  unfold runSetEpochWatch
  dsimp only
  split <;> rfl

theorem runSetCadence_frame : (runSetCadence r s).state = { s with clock := (runSetCadence r s).state.clock } := by
  unfold runSetCadence
  dsimp only
  split <;> rfl

theorem runSetSite_frame : (runSetSite r s).state = { s with site := (runSetSite r s).state.site } := by
  unfold runSetSite
  dsimp only
  split <;> rfl

/-- A mode request writes the mode alone (R167). -/
def ModeOnly (s u : State) : Prop := u = { s with mgmt := { s.mgmt with mode := u.mgmt.mode } }

theorem runEnterShow_mode : ModeOnly s (runEnterShow r s).state := by
  unfold ModeOnly runEnterShow
  repeat' split
  all_goals rfl

theorem runEnterSetup_mode : ModeOnly s (runEnterSetup r s).state := by
  unfold ModeOnly runEnterSetup
  split <;> rfl

/-! ## The rules that write the store -/

/-- A request on the store writes neither the active bank nor which bank that is (R25, R26, R30, R32, R36). -/
structure ShadowOnly (s u : State) : Prop where
  frame : u = { s with store := u.store }
  active : u.store.active = s.store.active
  bank : u.bank s.store.active = s.bank s.store.active

theorem ShadowOnly.refl (s : State) : ShadowOnly s s := ⟨rfl, rfl, rfl⟩

theorem ShadowOnly.setBank {s : State} {bank : Fin 2} (x : Bank) (writable : ¬s.store.refusesWrite bank = true) :
    ShadowOnly s (s.setBank bank x) := by
  have other : bank ≠ s.store.active := fun same => writable ((refusesWrite_eq_true_iff _ _).mpr (.inl same))
  exact ⟨rfl, rfl, State.bank_setBank_of_ne s bank _ x other.symm⟩

theorem runLoadSegments_shadow : ShadowOnly s (runLoadSegments r s).state := by
  unfold runLoadSegments
  dsimp only
  split
  · exact .refl s
  split
  · exact .refl s
  split
  · exact .refl s
  · next writable => exact .setBank _ writable

theorem runWriteBody_shadow : ShadowOnly s (runWriteBody r s).state := by
  unfold runWriteBody
  split
  · split
    · exact .refl s
    split
    · exact .refl s
    · next writable => exact .setBank _ writable
  · exact .refl s

theorem scheduleSwap_shadow (swap : SwapState) : ShadowOnly s (scheduleSwap s swap).state := by
  unfold scheduleSwap
  repeat' split
  all_goals exact ⟨rfl, rfl, rfl⟩

theorem runSwapBanks_shadow : ShadowOnly s (runSwapBanks r s).state := by
  unfold runSwapBanks
  dsimp only
  split
  · exact scheduleSwap_shadow s _
  · split
    · exact scheduleSwap_shadow s _
    · exact .refl s
  · exact .refl s

theorem runCancelSwap_shadow : ShadowOnly s (runCancelSwap r s).state := by
  unfold runCancelSwap
  repeat' split
  all_goals exact ⟨rfl, rfl, rfl⟩

/-! ## The rules that write the Cue Engine -/

/-- A request on the Cue Engine leaves the held set (R146 to R149). -/
structure CuesOnly (s u : State) : Prop where
  frame : u = { s with cues := u.cues }
  held : u.cues.held = s.cues.held

theorem CuesOnly.refl (s : State) : CuesOnly s s := ⟨rfl, rfl⟩

theorem runWriteCues_cues : CuesOnly s (runWriteCues r s).state := by
  unfold runWriteCues
  dsimp only
  repeat' split
  all_goals exact ⟨rfl, rfl⟩

theorem writeChannel_cues (c : Fin Config.channelCount) : CuesOnly s (writeChannel r s c).state := by
  unfold writeChannel
  repeat' split
  all_goals exact ⟨rfl, rfl⟩

theorem armChannel_cues (c : Fin Config.channelCount) : CuesOnly s (armChannel r s c).state := by
  unfold armChannel
  repeat' split
  all_goals exact ⟨rfl, rfl⟩

theorem disarmChannel_cues (c : Fin Config.channelCount) : CuesOnly s (disarmChannel r s c).state := by
  unfold disarmChannel
  split <;> exact ⟨rfl, rfl⟩

theorem onChannel_cues {run : Request → State → Fin Config.channelCount → Answer} (cues : ∀ c, CuesOnly s (run r s c).state) :
    CuesOnly s (onChannel run r s).state := by
  unfold onChannel
  split
  · exact .refl s
  split
  · exact .refl s
  · exact cues _

/-! ## The rules that write one axis -/

/-- The rule of an axis command leaves every other axis and the rest of the part (R104 to R110). -/
theorem commandRule_writes {code : Byte} {run : State → Fin Config.axisCount → Answer} (named : commandRule code = some run)
    (a : Fin Config.axisCount) : ∃ y, (run s a).state = s.setAxis a y := by
  have stands : ∃ y, s = s.setAxis a y := ⟨_, (setAxis_axis_self s a).symm⟩
  unfold commandRule at named
  split at named
  case h_7 => cases named
  all_goals obtain rfl := Option.some.inj named
  all_goals dsimp only [enableAxis, disableAxis, homeAxis, trackAxis, stopAxis, clearFaultAxis]
  all_goals repeat' split
  all_goals first | exact stands | exact ⟨_, rfl⟩

theorem writeAxisItems_writes (a : Fin Config.axisCount) (items : Items) :
    ∃ y, (writeAxisItems s a items).state = s.setAxis a y := by
  have stands : ∃ y, s = s.setAxis a y := ⟨_, (setAxis_axis_self s a).symm⟩
  unfold writeAxisItems
  dsimp only
  repeat' split
  all_goals first | exact stands | exact ⟨_, rfl⟩

/-- A request on an axis writes no axis but the one that its first byte names (R100, R104). -/
structure NamedAxisOnly (r : Request) (s u : State) : Prop where
  frame : u = { s with axes := u.axes }
  others : ∀ b : Fin Config.axisCount, r.args.head? ≠ some (codeByte b.val) → u.axis b = s.axis b

theorem NamedAxisOnly.refl : NamedAxisOnly r s s := ⟨rfl, fun _ _ => rfl⟩

theorem NamedAxisOnly.of_writes {r : Request} {s u : State} {a : Fin Config.axisCount}
    (named : r.args.head? = some (codeByte a.val)) (writes : ∃ y, u = s.setAxis a y) : NamedAxisOnly r s u := by
  obtain ⟨y, rfl⟩ := writes
  refine ⟨rfl, fun b other => State.axis_setAxis_of_ne s a b y ?_⟩
  rintro rfl
  exact other named

theorem command_named {code : Byte} {run : State → Fin Config.axisCount → Answer} (named : commandRule code = some run) :
    NamedAxisOnly r s (onAxis run r s).state := by
  unfold onAxis
  split
  · next axis _ args =>
      split
      · next a found =>
          refine .of_writes (a := a) ?_ (commandRule_writes s named a)
          rw [args, ← indexOf_eq_some_iff.mp found, codeByte_of_toNat]
          rfl
      · exact .refl r s
  · exact .refl r s

theorem runAxisCommand_named : NamedAxisOnly r s (runAxisCommand r s).state := by
  unfold runAxisCommand
  split
  · split
    · next named => exact command_named r s named
    · exact .refl r s
  · exact .refl r s

theorem runWriteAxis_named : NamedAxisOnly r s (runWriteAxis r s).state := by
  unfold runWriteAxis
  dsimp only
  split
  · exact .refl r s
  next a found =>
  split
  · exact .refl r s
  next length =>
  refine .of_writes (a := a) ?_ (writeAxisItems_writes s a _)
  cases args : r.args with
  | nil => simp [args, itemBytes] at length; omega
  | cons b rest =>
      rw [args] at found
      have number : b.toNat = a.val := by
        rw [← indexOf_eq_some_iff.mp found, beNat_slice_one]
        rfl
      rw [← number, codeByte_of_toNat]
      rfl

end rules

/-! ## Which commands execute which requests -/

/-- The commands whose requests are held to the access rule (R102, R170). -/
theorem exec_held {i : Instr}
    (held : i ∈ [Instr.setSite, .readAxis, .writeAxis, .enable, .disable, .home, .track, .stop, .clearFault, .axisCommand,
      .softReset]) : ∃ mine run, ∀ s, exec i s = execute mine true run s := by
  simp only [List.mem_cons, List.not_mem_nil, or_false] at held
  rcases held with rfl | rfl | rfl | rfl | rfl | rfl | rfl | rfl | rfl | rfl | rfl
  all_goals exact ⟨_, _, fun _ => rfl⟩

theorem exec_unheld {i : Instr}
    (unheld : i ∈ [Instr.unknownRequest, .readStatus, .setEpoch, .setRate, .setEpochWatch, .setCadence, .readBody, .writeBody,
      .loadSegments, .readSegments, .swapBanks, .cancelSwap, .writeCues, .writeChannel, .armChannel, .disarmChannel, .enterShow,
      .enterSetup]) : ∃ mine run, ∀ s, exec i s = execute mine false run s := by
  simp only [List.mem_cons, List.not_mem_nil, or_false] at unheld
  rcases unheld with rfl | rfl | rfl | rfl | rfl | rfl | rfl | rfl | rfl | rfl | rfl | rfl | rfl | rfl | rfl | rfl | rfl | rfl
  all_goals exact ⟨_, _, fun _ => rfl⟩

/-- The commands that execute the requests of one code (section 11.3). -/
theorem exec_coded {i : Instr} {code : Byte}
    (coded : (i, code) ∈ [(Instr.readStatus, (1 : Byte)), (.setEpoch, 2), (.setRate, 3), (.setEpochWatch, 4), (.setCadence, 5),
      (.setSite, 6), (.readAxis, 7), (.writeAxis, 8), (.axisCommand, 9), (.readBody, 10), (.writeBody, 11), (.loadSegments, 12),
      (.readSegments, 13), (.swapBanks, 14), (.cancelSwap, 15), (.writeCues, 16), (.writeChannel, 17), (.armChannel, 18),
      (.disarmChannel, 19), (.enterShow, 20), (.enterSetup, 21), (.softReset, 22)]) :
    ∃ waits run, ∀ s, exec i s = execute (hasCode code) waits run s := by
  simp only [List.mem_cons, List.not_mem_nil, or_false, Prod.mk.injEq] at coded
  rcases coded with ⟨rfl, rfl⟩ | ⟨rfl, rfl⟩ | ⟨rfl, rfl⟩ | ⟨rfl, rfl⟩ | ⟨rfl, rfl⟩ | ⟨rfl, rfl⟩ | ⟨rfl, rfl⟩ | ⟨rfl, rfl⟩ |
    ⟨rfl, rfl⟩ | ⟨rfl, rfl⟩ | ⟨rfl, rfl⟩ | ⟨rfl, rfl⟩ | ⟨rfl, rfl⟩ | ⟨rfl, rfl⟩ | ⟨rfl, rfl⟩ | ⟨rfl, rfl⟩ | ⟨rfl, rfl⟩ |
    ⟨rfl, rfl⟩ | ⟨rfl, rfl⟩ | ⟨rfl, rfl⟩ | ⟨rfl, rfl⟩ | ⟨rfl, rfl⟩
  all_goals exact ⟨_, _, fun _ => rfl⟩

/-- The six axis commands with their command bytes (R104). -/
theorem exec_command {i : Instr} {code : Byte}
    (command : (i, code) ∈ [(Instr.enable, (0 : Byte)), (.disable, 1), (.home, 2), (.track, 3), (.stop, 4), (.clearFault, 5)]) :
    code ≠ 255 ∧ ∃ run, commandRule code = some run ∧ ∀ s, exec i s = execute (isCommand code) true (onAxis run) s := by
  simp only [List.mem_cons, List.not_mem_nil, or_false, Prod.mk.injEq] at command
  rcases command with ⟨rfl, rfl⟩ | ⟨rfl, rfl⟩ | ⟨rfl, rfl⟩ | ⟨rfl, rfl⟩ | ⟨rfl, rfl⟩ | ⟨rfl, rfl⟩
  all_goals exact ⟨by decide, _, rfl, fun _ => rfl⟩

theorem isCommand_iff {code : Byte} (r : Request) (named : code ≠ 255) :
    isCommand code r = true ↔ r.code = 9 ∧ r.args[1]? = some code := by
  unfold isCommand hasCode
  rw [List.getD_eq_getElem?_getD]
  cases r.args[1]? with
  | none => simpa using fun _ => Ne.symm named
  | some b => simp

/-! ## What each request leaves -/

section leaves

variable {s t : State}

/-- The end of an execution that has written one part of the state leaves the line alone beside that part. -/
theorem execReads_leaves {mine : Request → Bool} {waits : Bool} {run : Request → State → Answer}
    (reads : ∀ r, (run r s).state = s) (outcome : execute mine waits run s = .next t) :
    LineOnly s t ∧ t.notices.Sublist s.notices := by
  obtain ⟨u, rfl, line, sub⟩ := execute_leaves (P := (· = s)) rfl (fun r _ _ _ _ => reads r) outcome
  exact ⟨line, sub⟩

theorem execReadStatus_leaves (outcome : execReadStatus s = .next t) :
    LineOnly { s with ring := { s.ring with errorsU := t.ring.errorsU, errorsD := t.ring.errorsD } } t ∧
      t.notices.Sublist s.notices := by
  obtain ⟨u, frame, line, sub⟩ := execute_leaves
    (P := fun u => u = { s with ring := { s.ring with errorsU := u.ring.errorsU, errorsD := u.ring.errorsD } }) rfl
    (fun r _ _ _ _ => runReadStatus_frame r s) outcome
  rw [line.errorsU, line.errorsD, ← frame]
  rw [frame] at sub
  exact ⟨line, sub⟩

theorem execClock_leaves {mine : Request → Bool} {waits : Bool} {run : Request → State → Answer}
    (frame : ∀ r, (run r s).state = { s with clock := (run r s).state.clock }) (outcome : execute mine waits run s = .next t) :
    LineOnly { s with clock := t.clock } t ∧ t.notices.Sublist s.notices := by
  obtain ⟨u, frame, line, sub⟩ :=
    execute_leaves (P := fun u => u = { s with clock := u.clock }) rfl (fun r _ _ _ _ => frame r) outcome
  rw [line.clock, ← frame]
  rw [frame] at sub
  exact ⟨line, sub⟩

theorem execSetSite_leaves (outcome : execSetSite s = .next t) :
    LineOnly { s with site := t.site } t ∧ t.notices.Sublist s.notices := by
  obtain ⟨u, frame, line, sub⟩ :=
    execute_leaves (P := fun u => u = { s with site := u.site }) rfl (fun r _ _ _ _ => runSetSite_frame r s) outcome
  rw [line.site, ← frame]
  rw [frame] at sub
  exact ⟨line, sub⟩

theorem execMode_leaves {mine : Request → Bool} {waits : Bool} {run : Request → State → Answer}
    (mode : ∀ r, ModeOnly s (run r s).state) (outcome : execute mine waits run s = .next t) :
    LineOnly { s with mgmt := { s.mgmt with mode := t.mgmt.mode } } t ∧ t.notices.Sublist s.notices := by
  obtain ⟨u, frame, line, sub⟩ := execute_leaves (P := ModeOnly s) (show ModeOnly s s from rfl) (fun r _ _ _ _ => mode r) outcome
  rw [ModeOnly] at frame
  rw [line.mode, ← frame]
  rw [frame] at sub
  exact ⟨line, sub⟩

theorem execShadow_leaves {mine : Request → Bool} {waits : Bool} {run : Request → State → Answer}
    (shadow : ∀ r, ShadowOnly s (run r s).state) (outcome : execute mine waits run s = .next t) :
    LineOnly { s with store := t.store } t ∧ t.store.active = s.store.active ∧
      t.bank s.store.active = s.bank s.store.active ∧ t.notices.Sublist s.notices := by
  obtain ⟨u, ⟨frame, active, bank⟩, line, sub⟩ :=
    execute_leaves (P := ShadowOnly s) (.refl s) (fun r _ _ _ _ => shadow r) outcome
  rw [State.bank, line.store, ← frame]
  rw [frame] at sub
  exact ⟨line, active, bank, sub⟩

theorem execCues_leaves {mine : Request → Bool} {waits : Bool} {run : Request → State → Answer}
    (cues : ∀ r, CuesOnly s (run r s).state) (outcome : execute mine waits run s = .next t) :
    LineOnly { s with cues := t.cues } t ∧ t.cues.held = s.cues.held ∧ t.notices.Sublist s.notices := by
  obtain ⟨u, ⟨frame, held⟩, line, sub⟩ := execute_leaves (P := CuesOnly s) (.refl s) (fun r _ _ _ _ => cues r) outcome
  rw [line.cues, ← frame]
  rw [frame] at sub
  exact ⟨line, held, sub⟩

/-- The end of the step writes reported images into the axes that a request on an axis leaves. -/
theorem execNamedAxis_leaves {mine : Request → Bool} {waits : Bool} {run : Request → State → Answer}
    (named : ∀ r, NamedAxisOnly r s (run r s).state) (outcome : execute mine waits run s = .next t) :
    LineOnly { s with axes := t.axes } t ∧ t.notices.Sublist s.notices ∧
      ∀ r rest, s.mgmt.requests = r :: rest → ∀ b : Fin Config.axisCount, r.args.head? ≠ some (codeByte b.val) →
        (t.axis b).butReported = (s.axis b).butReported := by
  obtain ⟨u, ⟨frame, others⟩, line, sub⟩ := execute_leaves
    (P := fun u => u = { s with axes := u.axes } ∧
      ∀ r rest, s.mgmt.requests = r :: rest → ∀ b : Fin Config.axisCount, r.args.head? ≠ some (codeByte b.val) →
        u.axis b = s.axis b)
    ⟨rfl, fun _ _ _ _ _ => rfl⟩
    (fun r rest head _ _ => ⟨(named r).frame, fun r' rest' found b other => by
      rw [head] at found
      rw [← (List.cons.inj found).1] at other
      exact (named r).others b other⟩) outcome
  rw [frame] at line sub
  obtain ⟨clock, eval, store, bodies, site, axes, cycle, cues, mode, freeCredits, errorsU, errorsD, freeCount, pending⟩ := line
  refine ⟨⟨clock, eval, store, bodies, site, fun _ => rfl, cycle, cues, mode, freeCredits, errorsU, errorsD, freeCount, pending⟩,
    sub, fun r rest head b other => ?_⟩
  exact (axes b).trans (congrArg Axis.butReported (others r rest head b other))

end leaves

/-- Settles O51: an execution with no request of its own, or one that waits, changes nothing; the others leave what their rules do. -/
theorem requestsWaitAndFrame : Obligations.RequestsWaitAndFrame := by
  refine ⟨fun _ _ _ _ => rfl, fun s t i outcome => ?_⟩
  have stands (same : exec i s = .next s) : t = s := Host.Outcome.next.inj (outcome.symm.trans same)
  refine ⟨fun held waiting => ?_, fun unheld none => ?_, fun r rest head => ⟨fun code other coded => ?_, ?_, ?_⟩, ?_, ?_, ?_, ?_,
    ?_, ?_, ?_, ?_⟩
  · obtain ⟨mine, run, arm⟩ := exec_held held
    exact stands ((arm s).trans (execute_of_waiting waiting))
  · obtain ⟨mine, run, arm⟩ := exec_unheld unheld
    exact stands ((arm s).trans (execute_of_no_request none))
  · obtain ⟨waits, run, arm⟩ := exec_coded coded
    exact stands ((arm s).trans (execute_of_other head (decide_eq_false other)))
  · rintro rfl low high
    have named : unknownCode r = false := by simp [unknownCode]; omega
    exact stands (execute_of_other head named)
  · intro code other command
    obtain ⟨small, run, _, arm⟩ := exec_command command
    have foreign : isCommand code r = false := by
      rw [← Bool.not_eq_true, isCommand_iff r small]
      exact fun ⟨nine, byte⟩ => other.elim (fun not => not nine) (fun not => not byte)
    exact stands ((arm s).trans (execute_of_other head foreign))
  · intro named
    simp only [List.mem_cons, List.not_mem_nil, or_false] at named
    rcases named with rfl | rfl | rfl | rfl
    · exact execReads_leaves (fun _ => rfl) outcome
    · exact execReads_leaves (fun r => runReadAxis_state r s) outcome
    · exact execReads_leaves (fun r => runReadBody_state r s) outcome
    · exact execReads_leaves (fun r => runReadSegments_state r s) outcome
  · rintro rfl
    exact execReadStatus_leaves outcome
  · intro named
    simp only [List.mem_cons, List.not_mem_nil, or_false] at named
    rcases named with rfl | rfl | rfl | rfl
    · exact execClock_leaves (fun r => runSetEpoch_frame r s) outcome
    · exact execClock_leaves (fun r => runSetRate_frame r s) outcome
    · exact execClock_leaves (fun r => runSetEpochWatch_frame r s) outcome
    · exact execClock_leaves (fun r => runSetCadence_frame r s) outcome
  · rintro rfl
    exact execSetSite_leaves outcome
  · intro named
    simp only [List.mem_cons, List.not_mem_nil, or_false] at named
    rcases named with rfl | rfl | rfl | rfl | rfl | rfl | rfl | rfl
    · exact execNamedAxis_leaves (fun r => runWriteAxis_named r s) outcome
    · exact execNamedAxis_leaves (fun r => command_named r s (code := 0) rfl) outcome
    · exact execNamedAxis_leaves (fun r => command_named r s (code := 1) rfl) outcome
    · exact execNamedAxis_leaves (fun r => command_named r s (code := 2) rfl) outcome
    · exact execNamedAxis_leaves (fun r => command_named r s (code := 3) rfl) outcome
    · exact execNamedAxis_leaves (fun r => command_named r s (code := 4) rfl) outcome
    · exact execNamedAxis_leaves (fun r => command_named r s (code := 5) rfl) outcome
    · exact execNamedAxis_leaves (fun r => runAxisCommand_named r s) outcome
  · intro named
    simp only [List.mem_cons, List.not_mem_nil, or_false] at named
    rcases named with rfl | rfl | rfl | rfl
    · exact execShadow_leaves (fun r => runWriteBody_shadow r s) outcome
    · exact execShadow_leaves (fun r => runLoadSegments_shadow r s) outcome
    · exact execShadow_leaves (fun r => runSwapBanks_shadow r s) outcome
    · exact execShadow_leaves (fun r => runCancelSwap_shadow r s) outcome
  · intro named
    simp only [List.mem_cons, List.not_mem_nil, or_false] at named
    rcases named with rfl | rfl | rfl | rfl
    · exact execCues_leaves (fun r => runWriteCues_cues r s) outcome
    · exact execCues_leaves (fun r => onChannel_cues r s (writeChannel_cues r s)) outcome
    · exact execCues_leaves (fun r => onChannel_cues r s (armChannel_cues r s)) outcome
    · exact execCues_leaves (fun r => onChannel_cues r s (disarmChannel_cues r s)) outcome
  · intro named
    simp only [List.mem_cons, List.not_mem_nil, or_false] at named
    rcases named with rfl | rfl
    · exact execMode_leaves (fun r => runEnterShow_mode r s) outcome
    · exact execMode_leaves (fun r => runEnterSetup_mode r s) outcome

end Sys2Proof.Machine
end

section
/-! The laws of one axis under each change that a step can make to it (R59, R60, R79, R92, R95, R97, R99 to R101, R118, R125). -/

namespace Sys2Proof.Machine

/-! ## Changes that keep the laws, the travel fields and the history -/

/-- A change of the axis of this number that keeps its laws and leaves its travel fields, its command history, and whether it is
OFF. -/
structure AxisKept (n : Nat) (x y : Axis) : Prop where
  sound : AxisSound n x → AxisSound n y
  travel : y.travel = x.travel
  off : y.state = .off ↔ x.state = .off
  history : y.drive.history = x.drive.history

namespace AxisKept

variable {n : Nat} {x y z : Axis}

theorem refl (n : Nat) (x : Axis) : AxisKept n x x := ⟨id, rfl, .rfl, rfl⟩

theorem trans (first : AxisKept n x y) (second : AxisKept n y z) : AxisKept n x z :=
  ⟨second.sound ∘ first.sound, second.travel.trans first.travel, second.off.trans first.off,
    second.history.trans first.history⟩

/-- The laws do not read the reported switch image. -/
theorem of_butReported (same : y.butReported = x.butReported) : AxisKept n x y where
  sound sound := by
    have bare : AxisSound n y.butReported := by rw [same]; exact { sound with }
    exact { bare with }
  travel := by
    show y.butReported.travel = x.butReported.travel
    rw [same]
  off := by
    show y.butReported.state = .off ↔ x.butReported.state = .off
    rw [same]
  history := by
    show y.butReported.drive.history = x.butReported.drive.history
    rw [same]

end AxisKept

/-! ## Ranges of positions (R79, R101) -/

theorem positionInRange_inKindRange (kind : AxisKind) (v : Int) : positionInRange kind (inKindRange kind v) = true := by
  rw [positionInRange_iff, inKindRange]
  split
  · obtain ⟨lo, hi⟩ := angle_range v
    omega
  · obtain ⟨lo, hi⟩ := reduceExt_range v
    omega

theorem enabledPosition_eq (kind : AxisKind) (actual o : Int) :
    enabledPosition kind actual o = inKindRange kind (actual - o) := by
  cases kind <;> rfl

/-! ## Fault causes (R116, R117) -/

/-- A fault cause keeps the laws of every axis: the entry makes a live axis HALTING with one cause, and a new cause of a failing axis
is not yet in its record. -/
theorem raiseFault_axisKept (s : State) (a : Fin Config.axisCount) (c : Cause) (b : Fin Config.axisCount) :
    AxisKept b.val (s.axis b) ((s.raiseFault a c).1.axis b) := by
  by_cases other : b = a
  · subst other
    rcases (s.axis b).state_cases with off | failing | live
    · rw [raiseFault_of_off off]
      exact .refl _ _
    · by_cases seen : c ∈ (s.axis b).causes
      · rw [raiseFault_of_seen failing seen]
        exact .refl _ _
      · rw [raiseFault_of_unseen failing seen, State.axis_raise, State.axis_setAxis_same]
        refine ⟨fun sound => { sound with homed := ?_, record := ?_ }, rfl, .rfl, rfl⟩
        · rcases failing with state | state <;> simp [homedAs, state]
        · have record := sound.record
          rcases failing with state | state
          all_goals
            simp only [recordAs, state] at record ⊢
            exact ⟨List.append_ne_nil_of_right_ne_nil _ (List.cons_ne_nil _ _),
              List.nodup_append.mpr ⟨record.2, List.nodup_singleton c, fun x old y new => by
                rintro rfl
                exact seen (List.mem_singleton.mp new ▸ old)⟩⟩
    · rw [raiseFault_of_live live, State.axis_raise, State.axis_setAxis_same]
      refine ⟨fun sound => ?_, rfl, ⟨nofun, fun off => absurd off live.1⟩, rfl⟩
      exact { sound with
        position := fun _ => sound.position live.1, atRest := nofun, homed := trivial,
        record := ⟨List.cons_ne_nil _ _, List.nodup_singleton c⟩, tracked := nofun }
  · rw [raiseFault_other s a b c other]
    exact .refl _ _

/-! ## FEEDBACK (R112, R126 to R134) -/

section feedback

variable (n : Nat) (x : Axis)

/-- The laws read the drive record for the history and the miss count alone. -/
theorem withDrive_axisKept {d : Drive} (history : d.history = x.drive.history)
    (misses : d.missCount ≤ 15 ∨ d.missCount = x.drive.missCount) : AxisKept n x { x with drive := d } :=
  ⟨fun sound => { sound with
      history := by show d.history.length ≤ 4; rw [history]; exact sound.history
      misses := misses.elim id fun same => by show d.missCount ≤ 15; rw [same]; exact sound.misses }, rfl, .rfl, history⟩

/-- A home edge in SEEK moves P and O within their ranges and goes on to SETTLE (R112). -/
theorem captureHome_axisKept (seek : x.state = .homing .seek) (actual : Int) : AxisKept n x (captureHome x actual) := by
  have captured := captureHome_eq x actual
  dsimp only at captured
  rw [captured]
  refine ⟨fun sound => ?_, rfl, ⟨nofun, fun off => absurd off (by simp [seek])⟩, rfl⟩
  have homed := sound.homed
  have record := sound.record
  rw [seek] at homed record
  exact { sound with
    offset := positionInRange_inKindRange _ _, position := fun _ => positionInRange_inKindRange _ _, atRest := nofun,
    homed := homed, record := record, tracked := nofun }

end feedback

/-- The image that a record shows of an axis, its masked switches read as inactive (R133). -/
def Axis.imageOf (x : Axis) (r : FeedbackRecord) : Switches := r.switches.masked x.travel.switchMask

/-- The axis after the refresh of its live image, and the home edge capture where the record shows the edge in SEEK (R112, R133). -/
def Axis.refreshed (x : Axis) (r : FeedbackRecord) : Axis := { x with drive := { x.drive with live := some (x.imageOf r) } }

def Axis.captured (x : Axis) (r : FeedbackRecord) : Axis :=
  if x.state = .homing .seek ∧ homeEdge x.drive.live (x.imageOf r) = true then captureHome (x.refreshed r) r.actual
  else x.refreshed r

/-- The state after a refresh: the axis captured, and SWITCH raised where R134 has it. -/
def State.refreshedBy (s : State) (a : Fin Config.axisCount) (r : FeedbackRecord) : State :=
  { s.setAxis a ((s.axis a).captured r) with
    notices :=
      if raisesSwitch (s.standing .switch a.val) (s.axis a).drive.live ((s.axis a).imageOf r) (s.axis a).drive.reported then
        raiseInto .switch a.val .switch s.notices
      else s.notices }

/-- The SWITCH_CHANGE of a refresh (R133). -/
def switchTriggers (a : Fin Config.axisCount) (before : Option Switches) (image : Switches) : List Trigger :=
  if liveChange before image then [{ kind := .switchChange, index := a.val }] else []

/-- The home limit test follows the refresh and the capture (R113). -/
def homeLimitTest (s : State) (a : Fin Config.axisCount) (x : Axis) (r : FeedbackRecord) : State × List Trigger :=
  if (x.captured r).state = .homing .seek ∧ homeLimit x.travel.homeVelocity (x.imageOf r) = true then s.raiseFault a .homeLimit
  else (s, [])

theorem refreshSwitches_eq (s : State) (a : Fin Config.axisCount) (r : FeedbackRecord) :
    refreshSwitches s a r =
      ((homeLimitTest (s.refreshedBy a r) a (s.axis a) r).1,
        switchTriggers a (s.axis a).drive.live ((s.axis a).imageOf r) ++ (homeLimitTest (s.refreshedBy a r) a (s.axis a) r).2) := by
  have written : s.refreshedBy a r =
      if raisesSwitch (s.standing .switch a.val) (s.axis a).drive.live ((s.axis a).imageOf r) (s.axis a).drive.reported then
        (s.setAxis a ((s.axis a).captured r)).raise .switch a.val .switch
      else s.setAxis a ((s.axis a).captured r) := (setAxis_raiseWhere s a _ _ _ _ _).symm
  rw [written]
  rfl

theorem refreshedBy_axis (s : State) (a : Fin Config.axisCount) (r : FeedbackRecord) :
    (s.refreshedBy a r).axis a = (s.axis a).captured r := State.axis_setAxis_same s a _

theorem captured_axisKept (n : Nat) (x : Axis) (r : FeedbackRecord) : AxisKept n x (x.captured r) := by
  have refreshed : AxisKept n x (x.refreshed r) := withDrive_axisKept n x rfl (.inr rfl)
  unfold Axis.captured
  split
  · next edge => exact refreshed.trans (captureHome_axisKept n (x.refreshed r) edge.1 r.actual)
  · exact refreshed

/-! ## Cue actions and the mapping (R62, R72, R74, R143, R155) -/

/-- The laws read the target fields for the source alone. -/
theorem withTarget_axisKept (n : Nat) (x : Axis) {t : Target}
    (source : sourceAs n x.target.source x.target.index → sourceAs n t.source t.index) : AxisKept n x { x with target := t } :=
  ⟨fun sound => { sound with source := source sound.source }, rfl, .rfl, rfl⟩

theorem withSuppress_axisKept (n : Nat) (x : Axis) (b : Bool) : AxisKept n x { x with suppress := b } :=
  ⟨fun sound => { sound with }, rfl, .rfl, rfl⟩

/-- An accepted source, with the index recorded for it, is one that the axis may hold (R60). -/
theorem sourceAs_of_accepted {n : Nat} {kind : SourceKind} {index : Int} (accepted : sourceAccepted n kind index = true) :
    sourceAs n kind (sourceIndex kind index) := by
  cases kind with
  | linear | siteLatitude | fixed => rfl
  | bodyLongitude | bodyLatitude =>
      have range := within_iff.mp accepted
      show index.toNat < 12
      omega
  | follow =>
      simp only [sourceAccepted, Bool.and_eq_true, decide_eq_true_eq] at accepted
      show index.toNat < n
      omega

theorem mapAxis_axisKept (s : State) (ev : Evaluation) (n : Nat) (x : Axis) : AxisKept n x (mapAxis s ev x) :=
  ⟨fun sound => { sound with }, rfl, .rfl, rfl⟩

/-! ## Shaping (R79 to R95, R114, R115) -/

/-- The reload of the watches leaves the source (R142). -/
theorem reloadWatches_source (t : Target) (crossed : Bool) :
    (reloadWatches t crossed).source = t.source ∧ (reloadWatches t crossed).index = t.index := by
  cases crossed <;> exact ⟨rfl, rfl⟩

/-- A faulted axis is at rest, and its law keeps it there (R89). -/
theorem shapeMotion_of_faulted {x : Axis} (faulted : x.state = .faulted) (valid : x.travel.Valid) (rest : x.velocity = 0) :
    (shapeMotion x).velocity = 0 := by
  have exempt : ¬stopsApply x.state x.homed = true := by rw [stopsApply_iff, faulted]; simp
  have law : lawVelocity x = velocityStep 0 0 x.travel.amax := by simp only [lawVelocity, faulted, rest]
  rw [shapeMotion_of_not_stopsApply exempt, law]
  obtain ⟨-, -, -, ⟨amax, -⟩, -⟩ := valid
  simp only [velocityStep]
  rw [clamp_eq_self (by omega) (by omega)]
  rfl

/-- The stop of a step from within the limits ends within them (R93, R94). -/
theorem limitStop_within {lo hi p v : Int} (from_lo : lo ≤ p) (from_hi : p ≤ hi) :
    lo ≤ (limitStop lo hi p (p + v) v).position ∧ (limitStop lo hi p (p + v) v).position ≤ hi := by
  unfold limitStop
  repeat' split
  all_goals dsimp only; omega

/-- The limits of travel lie within the extended range (R57, R99). -/
theorem stopLimits_within {t : Travel} {lo hi : Int} (valid : t.Valid) (limits : t.stopLimits = some (lo, hi)) :
    -extHalf ≤ lo ∧ hi < extHalf := by
  obtain ⟨⟨softLow, -, softHigh⟩, ⟨wind, windHigh⟩, -⟩ := valid
  unfold Travel.stopLimits Travel.windLimit at limits
  unfold halfTurn at softLow softHigh
  unfold turn at limits
  unfold extHalf
  cases kind : t.kind
  all_goals
    rw [kind] at limits
    simp only [Option.some.injEq, Prod.mk.injEq, reduceCtorEq] at limits
  all_goals omega

theorem inLimits_iff_stopLimits (t : Travel) (p : Int) :
    t.inLimits p = true ↔ ∀ lo hi, t.stopLimits = some (lo, hi) → lo ≤ p ∧ p ≤ hi := by
  unfold Travel.inLimits Travel.stopLimits
  cases t.kind <;> simp [within_iff]

/-- The stops hold a TRACKING axis within its limits (R93 to R95). -/
theorem shapedAxis_tracked {ev : Evaluation} {n : Nat} {x : Axis} (sound : AxisSound n x) (tracking : x.state = .tracking) :
    x.travel.inLimits (shapedAxis ev x).position = true := by
  rw [inLimits_iff_stopLimits]
  intro lo hi limits
  obtain ⟨lower, upper⟩ := (inLimits_iff_stopLimits _ _).mp (sound.tracked tracking) lo hi limits
  have homed := sound.homed
  rw [tracking] at homed
  have subject : stopsApply x.state x.homed = true := (stopsApply_iff _ _).mpr ⟨homed, .inl tracking⟩
  have travels : x.travel.kind ≠ .continuous := by
    intro kind
    simp [Travel.stopLimits, kind] at limits
  have motion : (shapeMotion x).position = (limitStop lo hi x.position (x.position + lawVelocity x) (lawVelocity x)).position := by
    rw [shapeMotion_of_stopsApply subject limits, stepPosition_of_ne_continuous travels]
  obtain ⟨extLow, extHigh⟩ := stopLimits_within sound.travel limits
  obtain ⟨fromLow, toHigh⟩ := limitStop_within (v := lawVelocity x) lower upper
  rw [shapedAxis_position, if_neg travels, motion, reduceExt_eq_self (by omega) (by omega)]
  exact ⟨fromLow, toHigh⟩

/-- A shaping leaves P in the range of the kind (R79, R90, R91). -/
theorem shapedAxis_positionInRange (ev : Evaluation) (x : Axis) :
    positionInRange x.travel.kind (shapedAxis ev x).position = true := by
  rw [shapedAxis_position, positionInRange_iff]
  split
  · next kind =>
      rw [shapeMotion_continuous kind]
      obtain ⟨lo, hi⟩ := angle_range (x.position + lawVelocity x)
      dsimp only
      omega
  · obtain ⟨lo, hi⟩ := reduceExt_range (shapeMotion x).position
    omega

theorem shapedAxis_axisKept (ev : Evaluation) (n : Nat) {x : Axis} (live : x.state ≠ .off) : AxisKept n x (shapedAxis ev x) := by
  refine ⟨fun sound => ?_, rfl, .rfl, rfl⟩
  obtain ⟨source, index⟩ := reloadWatches_source x.target (watchFires ev x (shapeMotion x) x.target.watchB)
  exact { sound with
    source := by
      show sourceAs n (reloadWatches x.target _).source (reloadWatches x.target _).index
      rw [source, index]
      exact sound.source
    position := fun _ => shapedAxis_positionInRange ev x
    speed := (shapingKeepsSpeedLimits x sound.travel sound.speed live).1
    atRest := fun rest => rest.elim (fun off => absurd off live) fun faulted =>
      shapeMotion_of_faulted faulted sound.travel (sound.atRest (.inr faulted))
    tracked := fun tracking => shapedAxis_tracked sound tracking }

/-- The end of a shaping moves a HALTING axis at rest to FAULTED, a homing at rest to its end, and a lost search to HALTING. -/
theorem endedAxis_axisKept (n : Nat) (y : Axis) : AxisKept n y (endedAxis y) := by
  by_cases halted : y.Halted
  · obtain ⟨state, rest⟩ := halted
    have ended : endedAxis y = { y with state := .faulted } := by
      simp [endedAxis, Axis.Halted, Axis.Settled, Axis.Lost, state, rest]
    rw [ended]
    refine ⟨fun sound => ?_, rfl, by simp [state], rfl⟩
    have record := sound.record
    rw [state] at record
    exact { sound with
      position := fun _ => sound.position (by simp [state]), atRest := fun _ => rest, homed := trivial, record := record,
      tracked := nofun }
  by_cases settled : y.Settled
  · obtain ⟨state, rest⟩ := settled
    have ended : endedAxis y = { y with state := .holding, homed := true } := by
      simp [endedAxis, Axis.Halted, Axis.Settled, Axis.Lost, state, rest]
    rw [ended]
    refine ⟨fun sound => ?_, rfl, by simp [state], rfl⟩
    have record := sound.record
    rw [state] at record
    exact { sound with
      position := fun _ => sound.position (by simp [state]), atRest := nofun, homed := rfl, record := record, tracked := nofun }
  by_cases abandoned : y.Abandoned
  · obtain ⟨state, rest⟩ := abandoned
    have ended : endedAxis y = { y with state := .unhomed } := by
      simp [endedAxis, Axis.Halted, Axis.Settled, Axis.Abandoned, Axis.Lost, state, rest]
    rw [ended]
    refine ⟨fun sound => ?_, rfl, by simp [state], rfl⟩
    have record := sound.record
    have homed := sound.homed
    rw [state] at record homed
    exact { sound with
      position := fun _ => sound.position (by simp [state]), atRest := nofun, homed := homed, record := record, tracked := nofun }
  by_cases lost : y.Lost
  · obtain ⟨state, past⟩ := lost
    have ended : endedAxis y = { y with state := .halting, causes := [.homeNotFound] } := by
      simp [endedAxis, Axis.Halted, Axis.Settled, Axis.Abandoned, Axis.Lost, state, past]
    rw [ended]
    refine ⟨fun sound => ?_, rfl, by simp [state], rfl⟩
    exact { sound with
      position := fun _ => sound.position (by simp [state]), atRest := nofun, homed := trivial,
      record := ⟨List.cons_ne_nil _ _, List.nodup_singleton _⟩, tracked := nofun }
  · have ended : endedAxis y = y := by simp only [endedAxis, halted, settled, abandoned, lost, if_false]
    rw [ended]
    exact .refl n y

end Sys2Proof.Machine
end

section
/-! The laws of the axes and of the command histories under each operation (R59, R60, R79, R92, R95, R97, R99 to R101, R118, R125). -/

namespace Sys2Proof.Machine

/-! ## Steps that keep the laws -/

/-- The records of the evaluation in flight are read from its stage, its records and which axes are OFF. -/
theorem recordsAs_congr {s t : State} {ev e : Evaluation} (off : ∀ a, (t.axis a).state = .off ↔ (s.axis a).state = .off)
    (stage : e.stage = ev.stage) (records : e.records = ev.records) (as : recordsAs s ev) : recordsAs t e := by
  unfold recordsAs at *
  rw [stage, records]
  simpa only [ne_eq, off] using as

/-- A step that keeps every axis, the cycle number and the claim on the records of the evaluation in flight. -/
structure AxesKept (s t : State) : Prop where
  axis : ∀ a, AxisKept a.val (s.axis a) (t.axis a)
  cycle : t.cycle = s.cycle
  records : (∀ ev, s.eval = some ev → recordsAs s ev) → ∀ ev, t.eval = some ev → recordsAs t ev

/-- A step that leaves the axes, the cycle number and the evaluation in flight. -/
structure SameAxes (s t : State) : Prop where
  axes : t.axes = s.axes
  cycle : t.cycle = s.cycle
  eval : t.eval = s.eval

namespace AxesKept

variable {s t u : State}

theorem refl (s : State) : AxesKept s s := ⟨fun a => .refl a.val _, rfl, id⟩

theorem trans (first : AxesKept s t) (second : AxesKept t u) : AxesKept s u :=
  ⟨fun a => (first.axis a).trans (second.axis a), second.cycle.trans first.cycle, second.records ∘ first.records⟩

/-- A step that keeps the axes, and writes of the evaluation in flight neither stage nor records. -/
theorem of_axes (axis : ∀ a, AxisKept a.val (s.axis a) (t.axis a)) (cycle : t.cycle = s.cycle)
    (eval : ∀ ev, t.eval = some ev → ∃ e, s.eval = some e ∧ ev.stage = e.stage ∧ ev.records = e.records) : AxesKept s t where
  axis := axis
  cycle := cycle
  records as ev inFlight := by
    obtain ⟨e, before, stage, records⟩ := eval ev inFlight
    exact recordsAs_congr (fun a => (axis a).off) stage records (as e before)

theorem of_sameEval (axis : ∀ a, AxisKept a.val (s.axis a) (t.axis a)) (cycle : t.cycle = s.cycle) (eval : t.eval = s.eval) :
    AxesKept s t :=
  of_axes axis cycle fun ev inFlight => ⟨ev, eval ▸ inFlight, rfl, rfl⟩

theorem axis_of_same (axes : t.axes = s.axes) (a : Fin Config.axisCount) : AxisKept a.val (s.axis a) (t.axis a) := by
  rw [State.axis_congr s t axes]
  exact .refl _ _

theorem of_same (same : SameAxes s t) : AxesKept s t := of_sameEval (axis_of_same same.axes) same.cycle same.eval

theorem of_lineOnly (line : LineOnly s t) : AxesKept s t :=
  of_sameEval (fun a => .of_butReported (line.axes a)) line.cycle line.eval

theorem setAxis {a : Fin Config.axisCount} {x : Axis} (kept : AxisKept a.val (s.axis a) x) : AxesKept s (s.setAxis a x) := by
  refine of_sameEval (fun b => ?_) rfl rfl
  rw [State.axis_setAxis]
  split
  · next same => subst same; exact kept
  · exact .refl _ _

theorem raise (s : State) (k : NoticeKind) (i : Nat) (d : Detail) : AxesKept s (s.raise k i d) := of_same ⟨rfl, rfl, rfl⟩

theorem raiseFault (s : State) (a : Fin Config.axisCount) (c : Cause) : AxesKept s (s.raiseFault a c).1 :=
  of_sameEval (raiseFault_axisKept s a c) (by rw [raiseFault_frame]) (by rw [raiseFault_frame])

/-- A test that takes a cause where it holds. -/
theorem raiseFaultWhere (s : State) (a : Fin Config.axisCount) (c : Cause) (test : Prop) [Decidable test] :
    AxesKept s (if test then s.raiseFault a c else (s, [])).1 := by
  split
  · exact .raiseFault s a c
  · exact .refl s

/-- The triggers of an evaluation are not among what the laws read. -/
theorem addTriggers (s : State) (ts : List Trigger) : AxesKept s (s.addTriggers ts) := by
  refine of_axes (axis_of_same rfl) rfl fun ev inFlight => ?_
  obtain ⟨e, before, rfl⟩ := Option.map_eq_some_iff.mp inFlight
  exact ⟨e, before, rfl, rfl⟩

end AxesKept

/-- A step that keeps each of the three laws of the axes, whether or not the others hold. -/
structure AxesLawsKept (s t : State) : Prop where
  sound : AxesSound s → AxesSound t
  distinct : ChannelsDistinct s → ChannelsDistinct t
  histories : HistoriesSound s → HistoriesSound t

/-- The law of an axis' command history (R125). -/
def HistoryOf (cycle : BitVec 8) (x : Axis) : Prop :=
  HistoryRuns cycle x.drive.history ∧ (x.state = .off → x.drive.history = [])

theorem channelsDistinct_of_travel {s t : State} (travel : ∀ a, (t.axis a).travel = (s.axis a).travel)
    (distinct : ChannelsDistinct s) : ChannelsDistinct t := by
  intro a b
  rw [travel, travel]
  exact distinct a b

namespace AxesLawsKept

variable {s t u : State}

theorem refl (s : State) : AxesLawsKept s s := ⟨id, id, id⟩

theorem trans (first : AxesLawsKept s t) (second : AxesLawsKept t u) : AxesLawsKept s u :=
  ⟨second.sound ∘ first.sound, second.distinct ∘ first.distinct, second.histories ∘ first.histories⟩

theorem of_kept (kept : AxesKept s t) : AxesLawsKept s t where
  sound sound a := (kept.axis a).sound (sound a)
  distinct := channelsDistinct_of_travel fun a => (kept.axis a).travel
  histories := fun ⟨runs, records⟩ => by
    refine ⟨fun a => ?_, kept.records records⟩
    rw [(kept.axis a).history, kept.cycle, (kept.axis a).off]
    exact runs a

theorem of_same (same : SameAxes s t) : AxesLawsKept s t := of_kept (.of_same same)

/-- With no evaluation in flight, an axis may also become OFF or live. -/
theorem of_idle (sound : ∀ a, AxisSound a.val (s.axis a) → AxisSound a.val (t.axis a))
    (travel : ∀ a, (t.axis a).travel = (s.axis a).travel)
    (histories : ∀ a, HistoryOf s.cycle (s.axis a) → HistoryOf t.cycle (t.axis a)) (idle : t.eval = none) : AxesLawsKept s t where
  sound before a := sound a (before a)
  distinct := channelsDistinct_of_travel travel
  histories before := ⟨fun a => histories a (before.1 a), fun ev inFlight => by rw [idle] at inFlight; cases inFlight⟩

theorem setAxis_of_idle {a : Fin Config.axisCount} {x : Axis} (idle : s.eval = none)
    (sound : AxisSound a.val (s.axis a) → AxisSound a.val x) (travel : x.travel = (s.axis a).travel)
    (histories : HistoryOf s.cycle (s.axis a) → HistoryOf s.cycle x) : AxesLawsKept s (s.setAxis a x) := by
  have one {P : Fin Config.axisCount → Axis → Prop} (written : P a x) (others : ∀ b, P b (s.axis b))
      (b : Fin Config.axisCount) : P b ((s.setAxis a x).axis b) := by
    rw [State.axis_setAxis]
    split
    · next same => subst same; exact written
    · exact others b
  exact of_idle (one (P := fun b y => AxisSound b.val (s.axis b) → AxisSound b.val y) sound fun _ => id)
    (one (P := fun b y => y.travel = (s.axis b).travel) travel fun _ => rfl)
    (one (P := fun b y => HistoryOf s.cycle (s.axis b) → HistoryOf s.cycle y) histories fun _ => id) idle

end AxesLawsKept

/-! ## Cue actions and firings (R152 to R156) -/

/-- TRACK takes a HOLDING axis within its limits to TRACKING (R108). -/
theorem trackAxis_axesKept (s : State) (a : Fin Config.axisCount) : AxesKept s (trackAxis s a).state := by
  unfold trackAxis
  dsimp only
  split
  · exact .setAxis (.refl _ _)
  · next holding =>
      split
      · next inside =>
          refine .setAxis ⟨fun sound => ?_, rfl, by simp [holding], rfl⟩
          have homed := sound.homed
          have record := sound.record
          rw [holding] at homed record
          exact { sound with
            position := fun _ => sound.position (by simp [holding]), atRest := nofun, homed := homed, record := record,
            tracked := fun _ => inside }
      · exact .refl s
  all_goals exact .refl s

/-- STOP takes a TRACKING axis to HOLDING and a search to its abandoning (R109). -/
theorem stopAxis_axesKept (s : State) (a : Fin Config.axisCount) : AxesKept s (stopAxis s a).state := by
  unfold stopAxis
  dsimp only
  split
  case h_1 state | h_2 state =>
    refine .setAxis ⟨fun sound => ?_, rfl, by simp [state], rfl⟩
    have homed := sound.homed
    have record := sound.record
    rw [state] at homed record
    exact { sound with
      position := fun _ => sound.position (by simp [state]), atRest := nofun, homed := homed, record := record, tracked := nofun }
  all_goals exact .setAxis (.refl _ _)

theorem writeTarget_axesKept (s : State) (a : Fin Config.axisCount) {t : Target}
    (source : sourceAs a.val (s.axis a).target.source (s.axis a).target.index → sourceAs a.val t.source t.index) :
    AxesKept s (writeTarget s a t) :=
  .setAxis ((withTarget_axisKept _ _ source).trans (withSuppress_axisKept _ _ true))

theorem runAction_axesKept {s t : State} {firing : Fin Config.channelCount} {action : CueAction}
    (ran : runAction s firing action = some t) : AxesKept s t := by
  cases action with
  | none =>
      obtain rfl := Option.some.inj ran
      exact .refl s
  | axisSource a k index =>
      obtain ⟨accepted, rfl⟩ := passed_of_guarded ran
      exact writeTarget_axesKept s a fun _ => sourceAs_of_accepted accepted
  | axisOffset a v =>
      obtain rfl := Option.some.inj ran
      exact writeTarget_axesKept s a id
  | axisScale a v =>
      obtain rfl := Option.some.inj ran
      exact writeTarget_axesKept s a id
  | axisState a stop =>
      obtain ⟨_, rfl⟩ := passed_of_guarded ran
      cases stop with
      | false => exact trackAxis_axesKept s a
      | true => exact stopAxis_axesKept s a
  | clockRate qt slew =>
      obtain ⟨_, rfl⟩ := passed_of_guarded ran
      exact .of_same ⟨rfl, rfl, rfl⟩
  | watchLoad a watchB buffer v =>
      obtain ⟨_, rfl⟩ := passed_of_guarded ran
      cases watchB <;> exact .setAxis (withTarget_axisKept _ _ id)
  | epochWatchSet day enable =>
      obtain ⟨_, rfl⟩ := passed_of_guarded ran
      exact .of_same ⟨rfl, rfl, rfl⟩
  | channelArm c =>
      obtain ⟨_, rfl⟩ := passed_of_guarded ran
      exact .of_same ⟨rfl, rfl, rfl⟩
  | channelDisarm c =>
      obtain rfl := Option.some.inj ran
      exact .of_same ⟨rfl, rfl, rfl⟩
  | note code =>
      obtain rfl := Option.some.inj ran
      exact .raise s _ _ _

theorem stepChannel_sameAxes (s : State) (c : Fin Config.channelCount) : SameAxes s (stepChannel s c) := by
  unfold stepChannel
  dsimp only
  split <;> exact ⟨rfl, rfl, rfl⟩

theorem fire_axesKept (s : State) (c : Fin Config.channelCount) : AxesKept s (fire s c) := by
  unfold fire
  dsimp only
  have acted : AxesKept s (match runAction s c (s.cueEntry (s.channel c).cursor) with
      | some t => t
      | none => s.raise .cue c.val (.cueRefused (s.channel c).cursor (s.cueEntry (s.channel c).cursor).code)) := by
    split
    · next ran => exact runAction_axesKept ran
    · exact .raise s _ _ _
  split
  · exact acted
  · exact acted.trans (.of_same (stepChannel_sameAxes _ c))

theorem service_axesKept (s : State) (t : Trigger) : AxesKept s (service s t) := by
  refine List.foldlRecOn _ _ (.refl s) fun u kept c _ => ?_
  split
  · exact kept.trans (fire_axesKept u c)
  · exact kept

theorem handOccurrence_axesKept (s : State) (t : Trigger) : AxesKept s (handOccurrence s t) := by
  unfold handOccurrence
  split
  · split
    · exact .refl s
    · exact .of_same ⟨rfl, rfl, rfl⟩
  · exact service_axesKept s t

/-! ## FEEDBACK (R112, R126 to R134, R151) -/

theorem refreshSwitches_axesKept (s : State) (a : Fin Config.axisCount) (r : FeedbackRecord) :
    AxesKept s (refreshSwitches s a r).1 := by
  rw [refreshSwitches_eq]
  have refreshed : AxesKept s (s.refreshedBy a r) :=
    (AxesKept.setAxis (captured_axisKept _ (s.axis a) r)).trans (.of_same ⟨rfl, rfl, rfl⟩)
  exact refreshed.trans (.raiseFaultWhere _ a .homeLimit _)

theorem matchRecord_axesKept (s : State) (a : Fin Config.axisCount) (cycle : BitVec 8) (r : FeedbackRecord) :
    AxesKept s (matchRecord s a cycle r).1 := by
  unfold matchRecord
  dsimp only
  split
  · exact .refl s
  · next c _ =>
      have matched : AxisKept a.val (s.axis a)
          { s.axis a with
            drive := { (s.axis a).drive with
              followError := some (followingError (s.axis a).travel.kind c r.actual), missCount := 0, answerPending := false } } :=
        withDrive_axisKept _ _ rfl (.inl (Nat.zero_le 15))
      exact (AxesKept.setAxis matched).trans (.raiseFaultWhere _ a .following _)

theorem handleRecord_axesKept (s : State) (a : Fin Config.axisCount) (cycle : BitVec 8) (r : FeedbackRecord) :
    AxesKept s (handleRecord s a cycle r).1 := by
  have stored : AxisKept a.val (s.axis a) (storeActual (s.axis a) r) := withDrive_axisKept _ _ rfl (.inr rfl)
  have two := (AxesKept.setAxis stored).trans (refreshSwitches_axesKept _ a r)
  unfold handleRecord
  dsimp only
  split
  · exact two
  · exact ((two.trans (matchRecord_axesKept _ a cycle r)).trans (.raiseFaultWhere _ a .driveFault _)).trans
      (.raiseFaultWhere _ a .hardLimit _)

theorem takeRecord_axesKept (node : Nat) (cycle : BitVec 8) (s : State) (r : FeedbackRecord) :
    AxesKept s (takeRecord node cycle s r) := by
  unfold takeRecord
  split
  · exact .refl s
  · next a _ =>
      exact List.foldlRecOn _ _ (handleRecord_axesKept s a cycle r) fun u kept t _ => kept.trans (handOccurrence_axesKept u t)

theorem takeFeedback_axesKept (s : State) (node : Nat) (payload : List Byte) : AxesKept s (takeFeedback s node payload) := by
  unfold takeFeedback
  split
  · exact .refl s
  · exact List.foldlRecOn _ _ (.refl s) fun u kept r _ => kept.trans (takeRecord_axesKept node _ u r)

/-! ## Syncs and frames received (R3, R10, R12, R15, R16, R158 to R161) -/

/-- A sync leaves the axes, and an evaluation that it issues has no record yet (R10). -/
theorem takeSync_axesKept (s : State) : AxesKept s (takeSync s) := by
  have frame := takeSync_frame s
  refine ⟨AxesKept.axis_of_same (by rw [frame]), by rw [frame], fun as ev inFlight => ?_⟩
  cases busy : s.eval with
  | none =>
      rw [takeSync_of_idle busy, issueEvaluation_eval] at inFlight
      obtain rfl := Option.some.inj inFlight
      rfl
  | some e =>
      rw [takeSync_of_busy busy, State.raise_eval, applySync_eval] at inFlight
      exact recordsAs_congr (fun a => by rw [State.axis_congr s _ (by rw [frame])]) rfl rfl (as ev inFlight)

theorem externalSync_axesKept (s : State) : AxesKept s (externalSync s) :=
  .trans (.of_same (t := cadenceStep s) (by rw [cadenceStep_eq]; exact ⟨rfl, rfl, rfl⟩)) (takeSync_axesKept _)

theorem discard_sameAxes (s : State) (port : Port) (reason : LinkReason) : SameAxes s (s.discard port reason) := by
  cases port <;> exact ⟨rfl, rfl, rfl⟩

theorem placeDownstream_sameAxes (s : State) (f : Frame) : SameAxes s (s.placeDownstream f) := by
  unfold State.placeDownstream
  split
  · exact ⟨rfl, rfl, rfl⟩
  · exact discard_sameAxes s _ _

theorem placeUpstream_sameAxes (s : State) (f : Frame) : SameAxes s (s.placeUpstream f) := by
  unfold State.placeUpstream
  split
  · exact ⟨rfl, rfl, rfl⟩
  · exact discard_sameAxes s _ _

theorem admitRequest_sameAxes (s : State) (payload : List Byte) : SameAxes s (admitRequest s payload) := by
  unfold admitRequest
  split
  · split <;> exact ⟨rfl, rfl, rfl⟩
  all_goals exact discard_sameAxes s _ _

theorem receiveCheck_sameAxes {s u : State} {port : Port} {f : Frame} (failed : receiveCheck s port f = some u) :
    SameAxes s u := by
  unfold receiveCheck at failed
  split at failed
  · cases failed
  all_goals
    obtain rfl := Option.some.inj failed
    cases port <;> exact ⟨rfl, rfl, rfl⟩

theorem dispatchU_axesKept (s : State) (f : Frame) : AxesKept s (dispatchU s f) := by
  unfold dispatchU
  split
  · exact .of_same (discard_sameAxes s _ _)
  split
  · exact .of_same (placeDownstream_sameAxes s f)
  split
  · exact externalSync_axesKept s
  split
  · exact .of_same (admitRequest_sameAxes s _)
  · exact .of_same (discard_sameAxes s _ _)

theorem dispatchD_axesKept (s : State) (f : Frame) : AxesKept s (dispatchD s f) := by
  unfold dispatchD
  split
  · exact .of_same (discard_sameAxes s _ _)
  split
  · exact (takeFeedback_axesKept s _ _).trans (.of_same (placeUpstream_sameAxes _ f))
  · exact .of_same (placeUpstream_sameAxes s f)

end Sys2Proof.Machine
end

section
/-! The stages of an evaluation keep the laws of the axes and of the command histories (R39, R62, R79, R80, R92, R97, R118, R122,
R125). -/

namespace Sys2Proof.Machine

/-! ## The records of an evaluation by its stage (R80, R121) -/

section recordsAs

variable {s : State} {ev : Evaluation}

theorem recordsAs_of_bodies {b : Fin Config.bodyCount} (stage : ev.stage = .bodies b) : recordsAs s ev ↔ ev.records = [] := by
  simp only [recordsAs, stage]

theorem recordsAs_of_mapping {a : Fin Config.axisCount} (stage : ev.stage = .mapping a) :
    recordsAs s ev ↔ ev.records = [] := by
  simp only [recordsAs, stage]

/-- The live axes below n, in ascending number. -/
def State.liveBelow (s : State) (n : Nat) : List (Fin Config.axisCount) :=
  allAxes.filter fun a => decide (a.val < n) && decide ((s.axis a).state ≠ .off)

theorem recordsAs_of_shaping {n : Nat} (stage : ev.stage = .shaping n) :
    recordsAs s ev ↔ ev.records.map (·.axis) = s.liveBelow n := by
  simp only [recordsAs, stage, State.liveBelow]

theorem recordsAs_of_servicing (stage : ev.stage = .servicing) : recordsAs s ev := by
  simp only [recordsAs, stage]

end recordsAs

theorem mem_liveBelow {s : State} {n : Nat} {a : Fin Config.axisCount} :
    a ∈ s.liveBelow n ↔ a.val < n ∧ (s.axis a).state ≠ .off := by
  simp [State.liveBelow, allAxes]

theorem liveBelow_zero (s : State) : s.liveBelow 0 = [] := by
  refine List.eq_nil_iff_forall_not_mem.mpr fun a found => ?_
  exact absurd (mem_liveBelow.mp found).1 (Nat.not_lt_zero _)

theorem liveBelow_ascending (s : State) (n : Nat) : (s.liveBelow n).Pairwise fun i j => i < j :=
  List.Pairwise.filter _ (List.pairwise_lt_finRange _)

theorem liveBelow_congr {s t : State} (off : ∀ a, (t.axis a).state = .off ↔ (s.axis a).state = .off) (n : Nat) :
    t.liveBelow n = s.liveBelow n := by
  simp only [State.liveBelow, ne_eq, off]

/-- The next live axis joins those below it: both lists ascend and have the same members. -/
theorem liveBelow_next {s : State} {n : Nat} {a : Fin Config.axisCount} (next : s.nextLive n = some a) :
    s.liveBelow (a.val + 1) = s.liveBelow n ++ [a] := by
  rw [State.nextLive, List.find?_eq_some_iff_append] at next
  obtain ⟨found, before, after, axes, skipped⟩ := next
  simp only [Bool.and_eq_true, decide_eq_true_eq] at found
  obtain ⟨reached, live⟩ := found
  have passed (b : Fin Config.axisCount) (from_n : n ≤ b.val) (below : b.val < a.val) : (s.axis b).state = .off := by
    have ascending : (before ++ a :: after).Pairwise fun i j => i < j := axes ▸ List.pairwise_lt_finRange _
    have member : b ∈ before ++ a :: after := axes ▸ List.mem_finRange b
    rcases List.mem_append.mp member with earlier | later
    · simpa [from_n] using skipped b earlier
    · rcases List.mem_cons.mp later with same | later
      · exact absurd (same ▸ below) (Nat.lt_irrefl _)
      · have above : a < b := (List.pairwise_cons.mp (List.pairwise_append.mp ascending).2.1).1 b later
        exact absurd below (Nat.not_lt_of_gt above)
  refine List.Pairwise.eq_of_mem_iff (liveBelow_ascending s _) ?_ fun b => ?_
  · refine List.pairwise_append.mpr ⟨liveBelow_ascending s n, List.pairwise_singleton _ _, fun b below c last => ?_⟩
    rw [List.mem_singleton.mp last]
    exact Nat.lt_of_lt_of_le (mem_liveBelow.mp below).1 reached
  · rw [mem_liveBelow, List.mem_append, mem_liveBelow, List.mem_singleton]
    constructor
    · rintro ⟨below, liveB⟩
      by_cases same : b = a
      · exact .inr same
      · refine .inl ⟨Nat.lt_of_not_le fun from_n => liveB (passed b from_n ?_), liveB⟩
        have apart : b.val ≠ a.val := fun equal => same (Fin.ext equal)
        omega
    · rintro (⟨below, liveB⟩ | rfl)
      · exact ⟨by omega, liveB⟩
      · exact ⟨Nat.lt_succ_self _, live⟩

/-! ## Bodies and mapping (R39, R62) -/

theorem recordsAs_afterBody {s t : State} {ev e : Evaluation} {b : Fin Config.bodyCount} (stage : ev.stage = .bodies b)
    (as : recordsAs s ev) (next : e.stage = Stage.afterBody b) (records : e.records = ev.records) : recordsAs t e := by
  have none : e.records = [] := records.trans ((recordsAs_of_bodies stage).mp as)
  unfold Stage.afterBody at next
  split at next
  · exact (recordsAs_of_bodies next).mpr none
  · exact (recordsAs_of_mapping next).mpr none

theorem evaluateOneBody_axesKept {s : State} {ev : Evaluation} {b : Fin Config.bodyCount} (inFlight : s.eval = some ev)
    (stage : ev.stage = .bodies b) : AxesKept s ((evaluateOneBody s ev b).setStage (Stage.afterBody b)) := by
  rw [evaluateOneBody_eq]
  refine ⟨AxesKept.axis_of_same rfl, rfl, fun as e after => ?_⟩
  rw [State.setStage_eval, State.setBody_eval, State.addTriggers_eval] at after
  simp only [inFlight, Option.map_some, Option.some.injEq] at after
  subst after
  exact recordsAs_afterBody stage (as ev inFlight) rfl rfl

theorem recordsAs_afterMapping {s t : State} {ev : Evaluation} {a : Fin Config.axisCount} (stage : ev.stage = .mapping a)
    (as : recordsAs s ev) (suppressed : Bool) : recordsAs t (ev.afterMapping a suppressed) := by
  have none : (ev.afterMapping a suppressed).records = [] := (recordsAs_of_mapping stage).mp as
  by_cases more : a.val + 1 < Config.axisCount
  · exact (recordsAs_of_mapping (a := ⟨a.val + 1, more⟩) (dif_pos more)).mpr none
  · rw [recordsAs_of_shaping (n := 0) (dif_neg more), none, liveBelow_zero]
    rfl

theorem mapOneAxis_axesKept {s : State} {ev : Evaluation} {a : Fin Config.axisCount} (inFlight : s.eval = some ev)
    (stage : ev.stage = .mapping a) : AxesKept s (mapOneAxis s ev a) := by
  have written : AxesKept s (s.setAxis a (mapAxis s ev (s.axis a))) := .setAxis (mapAxis_axisKept s ev _ _)
  refine ⟨written.axis, rfl, fun as e after => ?_⟩
  obtain rfl := Option.some.inj after
  exact recordsAs_afterMapping stage (as ev inFlight) _

/-! ## Shaping (R80, R83) -/

theorem nextLive_live {s : State} {n : Nat} {a : Fin Config.axisCount} (next : s.nextLive n = some a) :
    (s.axis a).state ≠ .off := by
  have found := List.find?_some (p := fun a : Fin Config.axisCount => decide (n ≤ a.val) && decide ((s.axis a).state ≠ .off)) next
  simp only [Bool.and_eq_true, decide_eq_true_eq] at found
  exact found.2

/-- The shaped axis joins the records, which stay those of the live axes below the next (R80). -/
theorem shapeOneAxis_axesKept {s : State} {ev : Evaluation} {n : Nat} {a : Fin Config.axisCount} (inFlight : s.eval = some ev)
    (stage : ev.stage = .shaping n) (next : s.nextLive n = some a) : AxesKept s (shapeOneAxis s ev a) := by
  have live := nextLive_live next
  rw [shapeOneAxis_eq]
  have written : AxesKept s (s.setAxis a (endedAxis (shapedAxis ev (s.axis a)))) :=
    .setAxis ((shapedAxis_axisKept ev _ live).trans (endedAxis_axisKept _ _))
  refine ⟨written.axis, rfl, fun as e after => ?_⟩
  obtain rfl := Option.some.inj after
  have before := (recordsAs_of_shaping stage).mp (as ev inFlight)
  refine (recordsAs_of_shaping (n := a.val + 1) rfl).mpr ?_
  refine Eq.trans ?_ (liveBelow_congr (s := s) (fun b => (written.axis b).off) (a.val + 1)).symm
  rw [liveBelow_next next, ← before]
  exact List.map_append

/-! ## The emission of one axis (R123, R125, R132) -/

/-- The emission of a record keeps the laws of its axis, with one more entry in its history. -/
structure AxisEmitted (n : Nat) (entry : BitVec 8 × Int) (x y : Axis) : Prop where
  sound : AxisSound n x → AxisSound n y
  off : y.state = .off ↔ x.state = .off
  history : y.drive.history = pushHistory x.drive.history entry

theorem AxisKept.emitted {n : Nat} {entry : BitVec 8 × Int} {x y z : Axis} (kept : AxisKept n x y)
    (emitted : AxisEmitted n entry y z) : AxisEmitted n entry x z :=
  ⟨emitted.sound ∘ kept.sound, emitted.off.trans kept.off, by rw [emitted.history, kept.history]⟩

theorem pushHistory_length {history : List (BitVec 8 × Int)} (short : history.length ≤ 4) (entry : BitVec 8 × Int) :
    (pushHistory history entry).length ≤ 4 := by
  have size : Config.bufferSize = 4 := rfl
  unfold pushHistory
  split
  all_goals
    rw [List.length_append, List.length_singleton]
    try rw [List.length_tail]
    omega

theorem emitLimit_axesKept (s : State) (r : Setpoint) : AxesKept s (emitLimit s r).1 := .raiseFaultWhere s r.axis .hardLimit _

theorem emitMiss_axesKept (s : State) (r : Setpoint) : AxesKept s (emitMiss s r).1 := by
  unfold emitMiss
  dsimp only
  split
  · have counted : AxisKept r.axis.val (s.axis r.axis)
        { s.axis r.axis with
          drive := { (s.axis r.axis).drive with missCount := min 15 ((s.axis r.axis).drive.missCount + 1) } } :=
      withDrive_axisKept _ _ rfl (.inl (Nat.min_le_left _ _))
    exact (AxesKept.setAxis counted).trans (.raiseFaultWhere _ r.axis .feedbackLost _)
  · exact .refl s

theorem emitRecord_axisEmitted (s : State) (cycle : BitVec 8) (r : Setpoint) :
    AxisEmitted r.axis.val (cycle, r.position) (s.axis r.axis) ((emitRecord s cycle r).axis r.axis) := by
  unfold emitRecord
  dsimp only
  rw [State.axis_setAxis_same]
  exact ⟨fun sound => { sound with history := pushHistory_length sound.history _ }, .rfl, rfl⟩

theorem emitAxis_axisEmitted (cycle : BitVec 8) (s : State) (r : Setpoint) :
    AxisEmitted r.axis.val (cycle, r.position) (s.axis r.axis) ((emitAxis cycle s r).axis r.axis) :=
  (((emitLimit_axesKept s r).trans (emitMiss_axesKept _ r)).axis r.axis).emitted (emitRecord_axisEmitted _ cycle r)

/-! ## The axes of the frame (R122, R123) -/

/-- The emission of these records has kept the laws of the axes and pushed an entry for each record where no axis has two. -/
structure RecordsEmitted (cycle : BitVec 8) (records : List Setpoint) (s t : State) : Prop where
  sound : AxesSound s → AxesSound t
  off : ∀ a, (t.axis a).state = .off ↔ (s.axis a).state = .off
  history : (records.map (·.axis)).Nodup → ∀ r ∈ records,
    (t.axis r.axis).drive.history = pushHistory (s.axis r.axis).drive.history (cycle, r.position)

theorem emitAxis_one (cycle : BitVec 8) (s : State) (r : Setpoint) (b : Fin Config.axisCount) :
    (AxisSound b.val (s.axis b) → AxisSound b.val ((emitAxis cycle s r).axis b)) ∧
      (((emitAxis cycle s r).axis b).state = .off ↔ (s.axis b).state = .off) := by
  by_cases same : b = r.axis
  · subst same
    have emitted := emitAxis_axisEmitted cycle s r
    exact ⟨emitted.sound, emitted.off⟩
  · rw [(emitAxis_emitted cycle s r).others b (List.forall_mem_singleton.mpr (Ne.symm same))]
    exact ⟨id, .rfl⟩

theorem foldl_emitAxis_recordsEmitted (cycle : BitVec 8) (records : List Setpoint) (s : State) :
    RecordsEmitted cycle records s (records.foldl (emitAxis cycle) s) := by
  induction records generalizing s with
  | nil => exact ⟨id, fun _ => .rfl, nofun⟩
  | cons r rest ih =>
      have later := ih (emitAxis cycle s r)
      have others := (foldl_emitAxis_emitted cycle rest (emitAxis cycle s r)).others
      refine ⟨fun sound => later.sound fun b => (emitAxis_one cycle s r b).1 (sound b),
        fun b => (later.off b).trans (emitAxis_one cycle s r b).2, fun distinct e found => ?_⟩
      rw [List.map_cons, List.nodup_cons] at distinct
      obtain ⟨apart, distinct⟩ := distinct
      have apartFrom (e : Setpoint) (inRest : e ∈ rest) : e.axis ≠ r.axis := fun same =>
        apart (same ▸ List.mem_map_of_mem inRest)
      rw [List.foldl_cons]
      rcases List.mem_cons.mp found with rfl | inRest
      · rw [others e.axis apartFrom]
        exact (emitAxis_axisEmitted cycle s e).history
      · rw [later.history distinct e inRest,
          (emitAxis_emitted cycle s r).others e.axis (List.forall_mem_singleton.mpr (apartFrom e inRest).symm)]

/-! ## Histories that run on (R125) -/

/-- The cycle numbers of a history of n entries that ends with this one. -/
def cyclesTo (cycle : BitVec 8) (n : Nat) : List (BitVec 8) := (List.range n).reverse.map fun k => cycle - BitVec.ofNat 8 k

theorem cyclesTo_next (cycle : BitVec 8) (n : Nat) : cyclesTo (cycle + 1) (n + 1) = cyclesTo cycle n ++ [cycle + 1] := by
  have shifted (k : Nat) : cycle + 1 - BitVec.ofNat 8 (k + 1) = cycle - BitVec.ofNat 8 k := by
    rw [BitVec.ofNat_add]
    exact add_sub_add_right_eq_sub cycle (BitVec.ofNat 8 k) 1
  simpa [cyclesTo, List.range_succ_eq_map] using fun k _ => shifted k

theorem cyclesTo_tail (cycle : BitVec 8) (n : Nat) : (cyclesTo cycle (n + 1)).tail = cyclesTo cycle n := by
  simp [cyclesTo, List.range_succ]

/-- Fewer than 256 cycle numbers in a row are distinct. -/
theorem cyclesTo_nodup (cycle : BitVec 8) {n : Nat} (short : n ≤ 256) : (cyclesTo cycle n).Nodup := by
  refine List.Nodup.map_on (fun i inI j inJ same => ?_) (List.nodup_reverse.mpr List.nodup_range)
  rw [List.mem_reverse, List.mem_range] at inI inJ
  have equal := congrArg BitVec.toNat (sub_right_injective same)
  simp only [BitVec.toNat_ofNat] at equal
  omega

theorem historyRuns_iff (cycle : BitVec 8) (history : List (BitVec 8 × Int)) :
    HistoryRuns cycle history ↔ history.length ≤ 4 ∧ history.map (·.1) = cyclesTo cycle history.length := by
  refine ⟨fun ⟨short, _, runs⟩ => ⟨short, runs⟩, fun ⟨short, runs⟩ => ⟨short, ?_, runs⟩⟩
  rw [runs]
  exact cyclesTo_nodup cycle (by omega)

theorem historyRuns_nil (cycle : BitVec 8) : HistoryRuns cycle [] := (historyRuns_iff cycle []).mpr ⟨Nat.zero_le 4, rfl⟩

/-- The entry of the next cycle runs on from a history, which gives up its oldest entry where it is full. -/
theorem historyRuns_push {cycle : BitVec 8} {history : List (BitVec 8 × Int)} (runs : HistoryRuns cycle history)
    (position : Int) : HistoryRuns (cycle + 1) (pushHistory history (cycle + 1, position)) := by
  rw [historyRuns_iff] at runs ⊢
  obtain ⟨short, cycles⟩ := runs
  refine ⟨pushHistory_length short _, ?_⟩
  unfold pushHistory
  split
  · rw [List.map_append, List.length_append, List.length_singleton, cyclesTo_next, ← cycles]
    rfl
  · next full =>
      have size : Config.bufferSize = 4 := rfl
      have four : history.length = history.tail.length + 1 := by rw [List.length_tail]; omega
      rw [List.map_append, List.length_append, List.length_singleton, cyclesTo_next, List.map_tail, cycles, four, cyclesTo_tail]
      rfl

/-! ## The emission taken whole (R122) -/

/-- The emission leaves the axes as its tests have left them, and its evaluation, where it stands, in its servicing (R11, R122). -/
theorem emitSetpoint_leaves (s : State) (ev : Evaluation) :
    let tested := ev.records.foldl (emitAxis (s.cycle + 1)) { s with cycle := s.cycle + 1 }
    (emitSetpoint s ev).axes = tested.axes ∧ (emitSetpoint s ev).cycle = s.cycle + 1 ∧
      ∀ e, (emitSetpoint s ev).eval = some e → e.stage = .servicing := by
  intro tested
  have frame : tested = _ := (foldl_emitAxis_emitted (s.cycle + 1) ev.records { s with cycle := s.cycle + 1 }).frame
  let served := (tested.handOver (setpointFrame (s.cycle + 1) ev.records)).setStage .servicing
  have whole : emitSetpoint s ev = served.completeIfServiced := rfl
  have completed := completeIfServiced_frame served
  refine ⟨by rw [whole, completed]; rfl, ?_, fun e after => ?_⟩
  · rw [whole, completed]
    show tested.cycle = _
    rw [frame]
  · cases before : served.eval with
    | none =>
        rw [whole, State.completeIfServiced, before] at after
        exact absurd (before.symm.trans after) nofun
    | some e' =>
        obtain ⟨e'', _, rfl⟩ := Option.map_eq_some_iff.mp before
        rw [whole, completeIfServiced_eval before rfl] at after
        split at after
        · cases after
        · obtain rfl := Option.some.inj after
          rfl

theorem emitSetpoint_axesLawsKept {s : State} {ev : Evaluation} {n : Nat} (inFlight : s.eval = some ev)
    (stage : ev.stage = .shaping n) (done : s.nextLive n = none) : AxesLawsKept s (emitSetpoint s ev) := by
  obtain ⟨axes, cycle, servicing⟩ := emitSetpoint_leaves s ev
  have emitted := foldl_emitAxis_recordsEmitted (s.cycle + 1) ev.records { s with cycle := s.cycle + 1 }
  have left := foldl_emitAxis_emitted (s.cycle + 1) ev.records { s with cycle := s.cycle + 1 }
  have axis (a : Fin Config.axisCount) := State.axis_congr _ _ axes a
  refine ⟨fun sound a => ?_, channelsDistinct_of_travel fun a => ?_, fun ⟨runs, records⟩ => ⟨fun a => ?_, fun e after => ?_⟩⟩
  · rw [axis]
    exact emitted.sound sound a
  · rw [axis]
    exact (left.course a).travel
  · have recorded := (recordsAs_of_shaping stage).mp (records ev inFlight)
    obtain ⟨before, empty⟩ := runs a
    rw [axis, cycle, emitted.off]
    by_cases off : (s.axis a).state = .off
    · have unrecorded : ∀ r ∈ ev.records, r.axis ≠ a := by
        rintro r found rfl
        have member : r.axis ∈ s.liveBelow n := recorded ▸ List.mem_map_of_mem found
        exact (mem_liveBelow.mp member).2 off
      rw [left.others a unrecorded]
      show HistoryRuns (s.cycle + 1) (s.axis a).drive.history ∧ _
      rw [empty off]
      exact ⟨historyRuns_nil _, fun _ => empty off⟩
    · have below : a.val < n := by
        refine Nat.lt_of_not_le fun reached => off ?_
        simpa [reached] using List.find?_eq_none.mp done a (List.mem_finRange a)
      obtain ⟨r, found, rfl⟩ := List.mem_map.mp (recorded ▸ mem_liveBelow.mpr ⟨below, off⟩)
      have distinct : (ev.records.map (·.axis)).Nodup := recorded ▸ (liveBelow_ascending s n).imp Fin.ne_of_lt
      rw [emitted.history distinct r found]
      exact ⟨historyRuns_push before r.position, fun nowOff => absurd nowOff off⟩
  · exact recordsAs_of_servicing (servicing e after)

end Sys2Proof.Machine
end

section
/-! Every request and every step keeps the laws of the axes and of the command histories (R59, R60, R79, R92, R95, R97, R99 to R101,
R105 to R110, R118, R125). -/

namespace Sys2Proof.Machine

/-! ## The axis commands (R105 to R110) -/

section commands

variable {s : State} {a : Fin Config.axisCount}

/-- ENABLE drives an OFF axis at rest within the range of positions (R105). -/
theorem enableAxis_axesLawsKept (idle : s.eval = none) : AxesLawsKept s (enableAxis s a).state := by
  unfold enableAxis
  dsimp only
  split
  · exact .refl s
  next notOff =>
  have off : (s.axis a).state = .off := Classical.not_not.mp notOff
  split
  · exact .refl s
  split
  · exact .refl s
  next actual _ =>
  have inRange : positionInRange (s.axis a).travel.kind
      (enabledPosition (s.axis a).travel.kind actual (s.axis a).offset) = true := by
    rw [enabledPosition_eq]
    exact positionInRange_inKindRange _ _
  have speed (valid : (s.axis a).travel.Valid) : mag 0 ≤ (s.axis a).travel.vmax := by
    obtain ⟨-, -, ⟨vmax, -⟩, -⟩ := valid
    exact mag_le.mpr (by omega)
  have histories {y : Axis} (drive : y.drive = (s.axis a).drive) (live : y.state ≠ .off)
      (before : HistoryOf s.cycle (s.axis a)) : HistoryOf s.cycle y :=
    ⟨drive ▸ before.1, fun nowOff => absurd nowOff live⟩
  split
  · refine .setAxis_of_idle idle (fun sound => ?_) rfl (histories rfl nofun)
    have record := sound.record
    rw [off] at record
    exact { sound with
      position := fun _ => inRange, speed := speed sound.travel, atRest := fun _ => rfl, homed := rfl, record := record,
      tracked := nofun }
  · split
    · exact .refl s
    · refine .setAxis_of_idle idle (fun sound => ?_) rfl (histories rfl nofun)
      have record := sound.record
      rw [off] at record
      exact { sound with
        position := fun _ => inRange, speed := speed sound.travel, atRest := fun _ => rfl, homed := rfl, record := record,
        tracked := nofun }

/-- DISABLE empties the history and the record of an axis at rest (R106, R125). -/
theorem disableAxis_axesLawsKept (idle : s.eval = none) : AxesLawsKept s (disableAxis s a).state := by
  unfold disableAxis
  dsimp only
  split
  · next allowed =>
      refine .setAxis_of_idle idle (fun sound => ?_) rfl fun _ => ⟨historyRuns_nil _, fun _ => rfl⟩
      exact { sound with
        position := fun live => absurd rfl live, atRest := fun _ => allowed.2, homed := rfl, record := rfl, tracked := nofun,
        history := Nat.zero_le 4, misses := Nat.zero_le 15 }
  · exact .refl s

theorem homeAxis_axesKept : AxesKept s (homeAxis s a).state := by
  unfold homeAxis
  dsimp only
  split
  · exact .refl s
  split
  · exact .refl s
  split
  · next ready =>
      have live : (s.axis a).state ≠ .off := by rcases ready with state | state <;> simp [state]
      refine .setAxis ⟨fun sound => ?_, rfl, ⟨nofun, fun off => absurd off live⟩, rfl⟩
      have record : (s.axis a).causes = [] := by
        rcases ready with state | state
        all_goals simpa only [recordAs, state] using sound.record
      exact { sound with
        position := fun _ => sound.position live, atRest := nofun, homed := rfl, record := record, tracked := nofun }
  · exact .refl s

theorem clearFaultAxis_axesKept : AxesKept s (clearFaultAxis s a).state := by
  unfold clearFaultAxis
  dsimp only
  split
  · exact .refl s
  next notFaulted =>
  have faulted : (s.axis a).state = .faulted := Classical.not_not.mp notFaulted
  have live : (s.axis a).state ≠ .off := by simp [faulted]
  split
  · exact .refl s
  · cases homed : (s.axis a).homed
    all_goals
      refine .setAxis ⟨fun sound => ?_, rfl, ⟨nofun, fun off => absurd off live⟩, rfl⟩
      exact { sound with
        position := fun _ => sound.position live, atRest := nofun, homed := rfl, record := rfl, tracked := nofun }

/-- The rule of each axis command keeps the laws, with no evaluation in flight (R102, R104). -/
theorem commandRule_axesLawsKept {code : Byte} {run : State → Fin Config.axisCount → Answer}
    (named : commandRule code = some run) (idle : s.eval = none) : AxesLawsKept s (run s a).state := by
  unfold commandRule at named
  split at named
  case h_7 => cases named
  all_goals obtain rfl := Option.some.inj named
  case h_1 => exact enableAxis_axesLawsKept idle
  case h_2 => exact disableAxis_axesLawsKept idle
  case h_3 => exact .of_kept homeAxis_axesKept
  case h_4 => exact .of_kept (trackAxis_axesKept s a)
  case h_5 => exact .of_kept (stopAxis_axesKept s a)
  case h_6 => exact .of_kept clearFaultAxis_axesKept

theorem command_axesLawsKept (r : Request) {code : Byte} {run : State → Fin Config.axisCount → Answer}
    (named : commandRule code = some run) (idle : s.eval = none) : AxesLawsKept s (onAxis run r s).state := by
  unfold onAxis
  split
  · split
    · exact commandRule_axesLawsKept named idle
    · exact .refl s
  · exact .refl s

theorem runAxisCommand_axesLawsKept (r : Request) (idle : s.eval = none) : AxesLawsKept s (runAxisCommand r s).state := by
  unfold runAxisCommand
  split
  · split
    · next named => exact command_axesLawsKept r named idle
    · exact .refl s
  · exact .refl s

end commands

/-! ## WRITE_AXIS (R60, R99 to R101) -/

/-- The travel fields that pass step 4 of R100 are ones that R99 accepts. -/
theorem travelOf_valid {v : Nat → Int} {t : Travel} (formed : travelOf v = some t) : t.Valid := by
  unfold travelOf at formed
  split at formed
  · obtain ⟨accepted, rfl⟩ := passed_of_guarded formed
    simp only [travelAccepted, Bool.and_eq_true, within_iff, decide_eq_true_eq] at accepted
    obtain ⟨⟨⟨⟨⟨⟨⟨⟨⟨⟨⟨⟨⟨⟨⟨low, high⟩, order⟩, wind⟩, vmax⟩, amax⟩, stopDecel⟩, moves⟩, slow⟩, home⟩, span⟩, node⟩, channel⟩, fe⟩,
      miss⟩, mask⟩ := accepted
    refine ⟨⟨low.1, order, high.2⟩, wind, vmax, amax, stopDecel, ⟨moves, slow⟩, home, span, ?_, ?_, fe, ?_⟩
    all_goals dsimp only; omega
  · cases formed

/-- What an accepted write has passed: its travel fields as they would stand, and its source (R60, R100). -/
theorem newTravel_passed {s : State} {a : Fin Config.axisCount} {items : Items} {t : Travel}
    (formed : newTravel s a items = some t) :
    t.Valid ∧ channelTaken s a t = false ∧ positionInRange t.kind (offsetAfter (s.axis a) t items) = true := by
  unfold newTravel at formed
  split at formed
  · cases formed
  next standing =>
  split at formed
  · cases formed
  next passed =>
  obtain rfl := Option.some.inj formed
  simp only [Bool.or_eq_true, Bool.not_eq_true', not_or, Bool.not_eq_true, Bool.not_eq_false] at passed
  obtain ⟨⟨free, _⟩, inRange⟩ := passed
  exact ⟨travelOf_valid standing, free, inRange⟩

theorem newSource_passed {x : Axis} {a : Fin Config.axisCount} {site : Site} {items : Items} {k : SourceKind} {index : Nat}
    (formed : newSource x a site items = some (some (k, index))) : sourceAs a.val k index := by
  unfold newSource at formed
  split at formed
  · cases formed
  split at formed
  · cases formed
  · split at formed
    · next accepted =>
        obtain ⟨rfl, rfl⟩ := Prod.mk.inj (Option.some.inj (Option.some.inj formed))
        exact sourceAs_of_accepted accepted
    · cases formed

/-- No carried target field but the pair of R60 writes the source. -/
theorem applyItem_source (t : Target) (e : Nat × Int) :
    (applyItem t e).source = t.source ∧ (applyItem t e).index = t.index := by
  unfold applyItem
  split <;> exact ⟨rfl, rfl⟩

theorem foldl_applyItem_source (t : Target) (items : Items) :
    (items.foldl applyItem t).source = t.source ∧ (items.foldl applyItem t).index = t.index :=
  List.foldlRecOn (motive := fun u : Target => u.source = t.source ∧ u.index = t.index) _ _ ⟨rfl, rfl⟩ fun u same e _ =>
    ⟨(applyItem_source u e).1.trans same.1, (applyItem_source u e).2.trans same.2⟩

theorem offsetAfter_of_no_travel (x : Axis) {items : Items} (bare : carriesTravel items = false) :
    offsetAfter x x.travel items = x.offset := by
  have absent : carried items 17 = none := by
    rw [carried, Option.map_eq_none_iff, List.find?_eq_none]
    intro e found same
    have travels : isTravelField e.1 = true := by rw [of_decide_eq_true same]; rfl
    exact absurd (List.any_eq_true.mpr ⟨e, found, travels⟩) (Bool.not_eq_true _ ▸ bare)
  unfold offsetAfter
  rw [absent]
  exact if_neg fun both => both.2 both.1

theorem rechannel_kept (d : Drive) (before after : Travel) :
    (d.rechannel before after).history = d.history ∧ (d.rechannel before after).missCount = d.missCount := by
  unfold Drive.rechannel
  split <;> exact ⟨rfl, rfl⟩

/-- The written axis keeps the laws: its travel fields and offset are those tested, an axis whose travel fields are written is OFF and
at rest, and its source is the one tested. -/
theorem writtenAxis_sound {n : Nat} {x : Axis} {t : Travel} {items : Items} {source : Option (SourceKind × Nat)}
    (travel : t = x.travel ∨ (t.Valid ∧ x.state = .off)) (inRange : x.travel.Valid → positionInRange x.travel.kind x.offset = true →
      positionInRange t.kind (offsetAfter x t items) = true)
    (named : ∀ p, source = some p → sourceAs n p.1 p.2) (sound : AxisSound n x) : AxisSound n (writtenAxis x t items source) := by
  obtain ⟨history, misses⟩ := rechannel_kept x.drive x.travel t
  obtain ⟨kind, index⟩ := foldl_applyItem_source x.target items
  refine
    { travel := ?_, source := ?_, offset := inRange sound.travel sound.offset, position := fun live => ?_, speed := ?_,
      atRest := sound.atRest, homed := sound.homed, record := sound.record, tracked := fun tracking => ?_,
      history := (congrArg List.length history).trans_le sound.history, misses := misses.trans_le sound.misses }
  · rcases travel with same | ⟨valid, _⟩
    · exact same ▸ sound.travel
    · exact valid
  · cases source with
    | none =>
        show sourceAs n (items.foldl applyItem x.target).source (items.foldl applyItem x.target).index
        rw [kind, index]
        exact sound.source
    | some p => exact named p rfl
  · rcases travel with rfl | ⟨_, off⟩
    · exact sound.position live
    · exact absurd off live
  · rcases travel with rfl | ⟨valid, off⟩
    · exact sound.speed
    · show mag x.velocity ≤ t.vmax
      rw [sound.atRest (.inl off)]
      obtain ⟨-, -, ⟨vmax, -⟩, -⟩ := valid
      exact mag_le.mpr (by omega)
  · rcases travel with rfl | ⟨_, off⟩
    · exact sound.tracked tracking
    · exact absurd (off.symm.trans tracking) nofun

theorem channelTaken_eq_false_iff (s : State) (a : Fin Config.axisCount) (t : Travel) :
    channelTaken s a t = false ↔
      (t.node ≠ 0 → ∀ b, b ≠ a → ¬((s.axis b).travel.node = t.node ∧ (s.axis b).travel.channel = t.channel)) := by
  simp [channelTaken, allAxes]

/-- A written drive channel is one that no other axis holds (R100 step 4). -/
theorem setAxis_channelsDistinct {s : State} {a : Fin Config.axisCount} {x : Axis} (free : channelTaken s a x.travel = false)
    (distinct : ChannelsDistinct s) : ChannelsDistinct (s.setAxis a x) := by
  rw [channelTaken_eq_false_iff] at free
  intro b c
  rw [State.axis_setAxis, State.axis_setAxis]
  by_cases written : b = a
  · by_cases also : c = a
    · intro _ _ _
      rw [written, also]
    · rw [if_pos written, if_neg also]
      intro named node channel
      exact absurd ⟨node.symm, channel.symm⟩ (free named c also)
  · by_cases also : c = a
    · rw [if_neg written, if_pos also]
      intro named node channel
      exact absurd ⟨node, channel⟩ (free (node ▸ named) b written)
    · rw [if_neg written, if_neg also]
      exact distinct b c

theorem writeAxis_axesLawsKept {s : State} {a : Fin Config.axisCount} {t : Travel} {items : Items}
    {source : Option (SourceKind × Nat)}
    (travel : t = (s.axis a).travel ∨ (t.Valid ∧ channelTaken s a t = false ∧ (s.axis a).state = .off))
    (inRange : positionInRange (s.axis a).travel.kind (s.axis a).offset = true →
      positionInRange t.kind (offsetAfter (s.axis a) t items) = true)
    (named : ∀ p, source = some p → sourceAs a.val p.1 p.2) :
    AxesLawsKept s (s.setAxis a (writtenAxis (s.axis a) t items source)) := by
  have off (b : Fin Config.axisCount) :
      ((s.setAxis a (writtenAxis (s.axis a) t items source)).axis b).state = (s.axis b).state ∧
        ((s.setAxis a (writtenAxis (s.axis a) t items source)).axis b).drive.history = (s.axis b).drive.history := by
    rw [State.axis_setAxis]
    split
    · next same => subst same; exact ⟨rfl, (rechannel_kept _ _ _).1⟩
    · exact ⟨rfl, rfl⟩
  refine ⟨fun sound b => ?_, fun distinct => ?_, fun ⟨runs, records⟩ => ⟨fun b => ?_, fun ev inFlight => ?_⟩⟩
  · rw [State.axis_setAxis]
    split
    · next same =>
        subst same
        exact writtenAxis_sound (travel.imp_right fun ⟨valid, _, off⟩ => ⟨valid, off⟩) (fun _ => inRange) named (sound b)
    · exact sound b
  · rcases travel with same | ⟨_, free, _⟩
    · refine channelsDistinct_of_travel (fun b => ?_) distinct
      rw [State.axis_setAxis]
      split
      · next at_a => subst at_a; exact same
      · rfl
    · exact setAxis_channelsDistinct free distinct
  · rw [(off b).1, (off b).2]
    exact runs b
  · exact recordsAs_congr (fun b => by rw [(off b).1]) rfl rfl (records ev inFlight)

theorem writeAxisItems_axesLawsKept (s : State) (a : Fin Config.axisCount) (items : Items) :
    AxesLawsKept s (writeAxisItems s a items).state := by
  unfold writeAxisItems
  dsimp only
  split
  · exact .refl s
  split
  · exact .refl s
  split
  · exact .refl s
  next notDriven =>
  split
  · next t source travel named =>
      split
      · refine writeAxis_axesLawsKept ?_ ?_ fun p some => newSource_passed (some ▸ named)
        · cases travels : carriesTravel items with
          | false => exact .inl (Option.some.inj (by simpa [travels] using travel)).symm
          | true =>
              rw [travels, if_pos rfl] at travel
              obtain ⟨valid, free, _⟩ := newTravel_passed travel
              exact .inr ⟨valid, free, by simpa [travels] using notDriven⟩
        · cases travels : carriesTravel items with
          | false =>
              have same : (s.axis a).travel = t := by simpa [travels] using travel
              subst same
              rw [offsetAfter_of_no_travel _ travels]
              exact id
          | true =>
              rw [travels, if_pos rfl] at travel
              exact fun _ => (newTravel_passed travel).2.2
      · exact .refl s
  · exact .refl s

theorem runWriteAxis_axesLawsKept (r : Request) (s : State) : AxesLawsKept s (runWriteAxis r s).state := by
  unfold runWriteAxis
  dsimp only
  split
  · exact .refl s
  split
  · exact .refl s
  · exact writeAxisItems_axesLawsKept s _ _

/-! ## The resets (R77, R96, R119, R138) -/

theorem softReset_sound {n : Nat} {x : Axis} (sound : AxisSound n x) : AxisSound n x.softReset := by
  obtain ⟨-, -, ⟨vmax, -⟩, -⟩ := sound.travel
  exact { sound with
    position := fun live => absurd rfl live, speed := mag_le.mpr ⟨by show -x.travel.vmax ≤ 0; omega, by show 0 ≤ x.travel.vmax; omega⟩,
    atRest := fun _ => rfl, homed := rfl, record := rfl, tracked := nofun, history := Nat.zero_le 4, misses := Nat.zero_le 15 }

theorem softResetState_axis (s : State) (r : Request) (a : Fin Config.axisCount) :
    (softResetState s r).axis a = (s.axis a).softReset := by
  simp [softResetState, State.axis, State.get_eq]

theorem runSoftReset_axesLawsKept {r : Request} {s : State} (idle : s.eval = none) :
    AxesLawsKept s (runSoftReset r s).state := by
  unfold runSoftReset
  split
  · exact .refl s
  · refine .of_idle (fun a sound => ?_) (fun a => ?_) (fun a _ => ?_) idle
    all_goals simp only [accept, softResetState_axis]
    · exact softReset_sound sound
    · rfl
    · exact ⟨historyRuns_nil _, fun _ => rfl⟩

theorem powerOnState_axesLawsKept (s : State) : AxesLawsKept s (powerOnState s) := by
  have axis (a : Fin Config.axisCount) : (powerOnState s).axis a = Axis.reset := axis_reset a
  refine ⟨fun _ a => ?_, fun _ a b named => ?_, fun _ => ⟨fun a => ?_, nofun⟩⟩
  · rw [axis]
    exact axisSound_reset a.val
  · rw [axis] at named
    exact absurd rfl named
  · rw [axis]
    exact ⟨historyRuns_nil _, fun _ => rfl⟩

/-! ## Every command and every step -/

section outcomes

variable {s t u : State}

theorem done_axesLawsKept (outcome : done u = .next t) (kept : AxesLawsKept s u) : AxesLawsKept s t := by
  obtain rfl := Host.Outcome.next.inj outcome
  exact kept.trans (.of_kept (.of_lineOnly (settle_lineOnly u)))

theorem notDue_axesLawsKept (outcome : notDue s = .next t) : AxesLawsKept s t := by
  obtain rfl := Host.Outcome.next.inj outcome
  exact .refl s

/-- An execution keeps the laws where its rule does, which a held request's need do with no evaluation in flight alone. -/
theorem execute_axesLawsKept {mine : Request → Bool} {waits : Bool} {run : Request → State → Answer}
    (kept : ∀ r, (waits = true → s.eval = none) → AxesLawsKept s (run r s).state)
    (outcome : execute mine waits run s = .next t) : AxesLawsKept s t := by
  obtain ⟨u, laws, line, _⟩ :=
    execute_leaves (P := AxesLawsKept s) (.refl s) (fun r _ _ _ free => kept r free) outcome
  exact laws.trans (.of_kept (.of_lineOnly line))

/-- A request that leaves the axes, the cycle number and the evaluation in flight. -/
theorem execute_sameAxes {mine : Request → Bool} {waits : Bool} {run : Request → State → Answer}
    (same : ∀ r, SameAxes s (run r s).state) (outcome : execute mine waits run s = .next t) : AxesLawsKept s t :=
  execute_axesLawsKept (fun r _ => .of_same (same r)) outcome

theorem execUFrameReceived_axesLawsKept {f : Frame} (outcome : execUFrameReceived f s = .next t) : AxesLawsKept s t := by
  unfold execUFrameReceived at outcome
  split at outcome
  · next failed => exact done_axesLawsKept outcome (.of_same (receiveCheck_sameAxes failed))
  · exact done_axesLawsKept outcome (.of_kept (dispatchU_axesKept s f))

theorem execDFrameReceived_axesLawsKept {f : Frame} (outcome : execDFrameReceived f s = .next t) : AxesLawsKept s t := by
  unfold execDFrameReceived at outcome
  split at outcome
  · next failed => exact done_axesLawsKept outcome (.of_same (receiveCheck_sameAxes failed))
  · exact done_axesLawsKept outcome (.of_kept (dispatchD_axesKept s f))

theorem execCadenceLoss_axesLawsKept (outcome : execCadenceLoss s = .next t) : AxesLawsKept s t := by
  unfold execCadenceLoss at outcome
  split at outcome
  · exact done_axesLawsKept outcome (.of_same ⟨rfl, rfl, rfl⟩)
  all_goals exact notDue_axesLawsKept outcome

theorem execLocalSync_axesLawsKept (outcome : execLocalSync s = .next t) : AxesLawsKept s t := by
  unfold execLocalSync at outcome
  split at outcome
  · exact done_axesLawsKept outcome
      (.trans (t := { s with clock := { s.clock with localGenerator := some s.clock.localPeriod } })
        (.of_same ⟨rfl, rfl, rfl⟩) (.of_kept (takeSync_axesKept _)))
  all_goals exact notDue_axesLawsKept outcome

theorem execBodyEvaluation_axesLawsKept (outcome : execBodyEvaluation s = .next t) : AxesLawsKept s t := by
  unfold execBodyEvaluation at outcome
  split at outcome
  · exact notDue_axesLawsKept outcome
  next ev inFlight =>
  split at outcome
  · next stage => exact done_axesLawsKept outcome (.of_kept (evaluateOneBody_axesKept inFlight stage))
  all_goals exact notDue_axesLawsKept outcome

theorem execTargetMapping_axesLawsKept (outcome : execTargetMapping s = .next t) : AxesLawsKept s t := by
  unfold execTargetMapping at outcome
  split at outcome
  · exact notDue_axesLawsKept outcome
  next ev inFlight =>
  split at outcome
  · next stage => exact done_axesLawsKept outcome (.of_kept (mapOneAxis_axesKept inFlight stage))
  all_goals exact notDue_axesLawsKept outcome

theorem execAxisShaping_axesLawsKept (outcome : execAxisShaping s = .next t) : AxesLawsKept s t := by
  unfold execAxisShaping at outcome
  split at outcome
  · exact notDue_axesLawsKept outcome
  next ev inFlight =>
  split at outcome
  · next stage =>
      split at outcome
      · next next => exact done_axesLawsKept outcome (.of_kept (shapeOneAxis_axesKept inFlight stage next))
      · exact notDue_axesLawsKept outcome
  all_goals exact notDue_axesLawsKept outcome

theorem execSetpointEmission_axesLawsKept (outcome : execSetpointEmission s = .next t) : AxesLawsKept s t := by
  unfold execSetpointEmission at outcome
  split at outcome
  · exact notDue_axesLawsKept outcome
  next ev inFlight =>
  split at outcome
  · next stage =>
      split at outcome
      · next last => exact done_axesLawsKept outcome (emitSetpoint_axesLawsKept inFlight stage last)
      · exact notDue_axesLawsKept outcome
  all_goals exact notDue_axesLawsKept outcome

/-- The test for completion ends an evaluation or leaves the state (R11). -/
theorem completeIfServiced_axesKept (s : State) : AxesKept s s.completeIfServiced := by
  unfold State.completeIfServiced
  split
  · split
    · exact .of_axes (AxesKept.axis_of_same rfl) rfl nofun
    · exact .refl s
  · exact .refl s

theorem execOccurrenceService_axesLawsKept (outcome : execOccurrenceService s = .next t) : AxesLawsKept s t := by
  unfold execOccurrenceService at outcome
  split at outcome
  · next ev inFlight =>
      split at outcome
      · next trigger rest _ _ =>
          have taken : AxesKept s { s with eval := some { ev with triggers := rest } } :=
            .of_axes (AxesKept.axis_of_same rfl) rfl fun e after => by
              obtain rfl := Option.some.inj after
              exact ⟨ev, inFlight, rfl, rfl⟩
          exact done_axesLawsKept outcome
            (.of_kept ((taken.trans (service_axesKept _ trigger)).trans (completeIfServiced_axesKept _)))
      · exact done_axesLawsKept outcome (.of_kept (completeIfServiced_axesKept s))
      all_goals exact notDue_axesLawsKept outcome
  · split at outcome
    · next trigger rest _ =>
        have taken : AxesKept s { s with cues := { s.cues with held := rest } } := .of_same ⟨rfl, rfl, rfl⟩
        exact done_axesLawsKept outcome (.of_kept (taken.trans (service_axesKept _ trigger)))
    · exact notDue_axesLawsKept outcome

theorem execDTransmitEnd_axesLawsKept (outcome : execDTransmitEnd s = .next t) : AxesLawsKept s t := by
  unfold execDTransmitEnd at outcome
  split at outcome
  · exact done_axesLawsKept outcome (.of_same ⟨rfl, rfl, rfl⟩)
  · exact notDue_axesLawsKept outcome

theorem execUTransmitEnd_axesLawsKept (outcome : execUTransmitEnd s = .next t) : AxesLawsKept s t := by
  unfold execUTransmitEnd at outcome
  split at outcome
  · exact done_axesLawsKept outcome (.of_same ⟨rfl, rfl, rfl⟩)
  · exact notDue_axesLawsKept outcome

/-- The parts that the requests but those on an axis write (R165). -/
theorem SameAxes.of_state {s u : State} (same : u = s) : SameAxes s u := same ▸ ⟨rfl, rfl, rfl⟩

theorem SameAxes.of_clock {s u : State} (frame : u = { s with clock := u.clock }) : SameAxes s u := by
  rw [frame]; exact ⟨rfl, rfl, rfl⟩

theorem SameAxes.of_ring {s u : State} {ring : Ring} (frame : u = { s with ring := ring }) : SameAxes s u := by
  rw [frame]; exact ⟨rfl, rfl, rfl⟩

theorem SameAxes.of_site {s u : State} (frame : u = { s with site := u.site }) : SameAxes s u := by
  rw [frame]; exact ⟨rfl, rfl, rfl⟩

theorem SameAxes.of_mode {s u : State} (mode : ModeOnly s u) : SameAxes s u := by
  rw [mode]; exact ⟨rfl, rfl, rfl⟩

theorem SameAxes.of_shadow {s u : State} (shadow : ShadowOnly s u) : SameAxes s u := by
  rw [shadow.frame]; exact ⟨rfl, rfl, rfl⟩

theorem SameAxes.of_cues {s u : State} (cues : CuesOnly s u) : SameAxes s u := by
  rw [cues.frame]; exact ⟨rfl, rfl, rfl⟩

/-- Every command keeps the laws of the axes. -/
theorem exec_axesLawsKept {i : Instr} (outcome : exec i s = .next t) : AxesLawsKept s t := by
  cases i with
  | powerOnReset => exact done_axesLawsKept outcome (powerOnState_axesLawsKept s)
  | uFrameReceived f => exact execUFrameReceived_axesLawsKept outcome
  | dFrameReceived f => exact execDFrameReceived_axesLawsKept outcome
  | cadenceLoss => exact execCadenceLoss_axesLawsKept outcome
  | localSync => exact execLocalSync_axesLawsKept outcome
  | bodyEvaluation => exact execBodyEvaluation_axesLawsKept outcome
  | targetMapping => exact execTargetMapping_axesLawsKept outcome
  | axisShaping => exact execAxisShaping_axesLawsKept outcome
  | setpointEmission => exact execSetpointEmission_axesLawsKept outcome
  | occurrenceService => exact execOccurrenceService_axesLawsKept outcome
  | dTransmitEnd => exact execDTransmitEnd_axesLawsKept outcome
  | uTransmitEnd => exact execUTransmitEnd_axesLawsKept outcome
  | unknownRequest => exact execute_sameAxes (fun _ => .of_state rfl) outcome
  | readStatus => exact execute_sameAxes (fun r => .of_ring (runReadStatus_frame r s)) outcome
  | setEpoch => exact execute_sameAxes (fun r => .of_clock (runSetEpoch_frame r s)) outcome
  | setRate => exact execute_sameAxes (fun r => .of_clock (runSetRate_frame r s)) outcome
  | setEpochWatch => exact execute_sameAxes (fun r => .of_clock (runSetEpochWatch_frame r s)) outcome
  | setCadence => exact execute_sameAxes (fun r => .of_clock (runSetCadence_frame r s)) outcome
  | setSite => exact execute_sameAxes (fun r => .of_site (runSetSite_frame r s)) outcome
  | readAxis => exact execute_sameAxes (fun r => .of_state (runReadAxis_state r s)) outcome
  | writeAxis => exact execute_axesLawsKept (fun r _ => runWriteAxis_axesLawsKept r s) outcome
  | enable => exact execute_axesLawsKept (fun r free => command_axesLawsKept r (code := 0) rfl (free rfl)) outcome
  | disable => exact execute_axesLawsKept (fun r free => command_axesLawsKept r (code := 1) rfl (free rfl)) outcome
  | home => exact execute_axesLawsKept (fun r free => command_axesLawsKept r (code := 2) rfl (free rfl)) outcome
  | track => exact execute_axesLawsKept (fun r free => command_axesLawsKept r (code := 3) rfl (free rfl)) outcome
  | stop => exact execute_axesLawsKept (fun r free => command_axesLawsKept r (code := 4) rfl (free rfl)) outcome
  | clearFault => exact execute_axesLawsKept (fun r free => command_axesLawsKept r (code := 5) rfl (free rfl)) outcome
  | readBody => exact execute_sameAxes (fun r => .of_state (runReadBody_state r s)) outcome
  | writeBody => exact execute_sameAxes (fun r => .of_shadow (runWriteBody_shadow r s)) outcome
  | loadSegments => exact execute_sameAxes (fun r => .of_shadow (runLoadSegments_shadow r s)) outcome
  | readSegments => exact execute_sameAxes (fun r => .of_state (runReadSegments_state r s)) outcome
  | swapBanks => exact execute_sameAxes (fun r => .of_shadow (runSwapBanks_shadow r s)) outcome
  | cancelSwap => exact execute_sameAxes (fun r => .of_shadow (runCancelSwap_shadow r s)) outcome
  | writeCues => exact execute_sameAxes (fun r => .of_cues (runWriteCues_cues r s)) outcome
  | writeChannel => exact execute_sameAxes (fun r => .of_cues (onChannel_cues r s (writeChannel_cues r s))) outcome
  | armChannel => exact execute_sameAxes (fun r => .of_cues (onChannel_cues r s (armChannel_cues r s))) outcome
  | disarmChannel => exact execute_sameAxes (fun r => .of_cues (onChannel_cues r s (disarmChannel_cues r s))) outcome
  | enterShow => exact execute_sameAxes (fun r => .of_mode (runEnterShow_mode r s)) outcome
  | enterSetup => exact execute_sameAxes (fun r => .of_mode (runEnterSetup_mode r s)) outcome
  | softReset => exact execute_axesLawsKept (fun r free => runSoftReset_axesLawsKept (free rfl)) outcome
  | axisCommand => exact execute_axesLawsKept (fun r free => runAxisCommand_axesLawsKept r (free rfl)) outcome

/-- Every step keeps the laws of the axes. -/
theorem step_axesLawsKept (stepped : step s = .next t) : AxesLawsKept s t := by
  unfold step at stepped
  split at stepped
  · exact notDue_axesLawsKept stepped
  · next rest _ =>
      exact (AxesLawsKept.of_same (s := s) (t := { s with pending := rest }) ⟨rfl, rfl, rfl⟩).trans (exec_axesLawsKept stepped)

end outcomes

/-- Settles O57: the two tests by their definitions, the laws by what every step keeps. -/
theorem axesStaySound : Obligations.AxesStaySound := by
  refine ⟨inLimits_iff, fun lo hi wind p => ⟨?_, within_iff, within_iff⟩, fun s t ⟨sound, distinct⟩ stepped => ?_,
    fun s t histories stepped => (step_axesLawsKept stepped).histories histories⟩
  · exact within_iff
  · have kept := step_axesLawsKept stepped
    exact ⟨kept.sound sound, kept.distinct distinct⟩

end Sys2Proof.Machine
end

section
/-! The tests of one axis of the frame: the causes they find, and what they leave of the axis (R116, R117, R123, R125, R131, R132). -/

namespace Sys2Proof.Machine

/-! ## What the tests read -/

/-- A hard limit is a live image that shows a limit active in the direction of the velocity (R131). -/
theorem hardLimit_iff (live : Option Switches) (v : Int) :
    hardLimit live v = true ↔ ∃ i, live = some i ∧ ((i.low = true ∧ v < 0) ∨ (i.high = true ∧ v > 0)) := by
  cases live <;> simp [hardLimit]

/-- The miss count after the miss test: one more, up to 15, where the last record is unanswered (R132). -/
def Drive.missesAfter (d : Drive) : Nat := if d.answerPending then min 15 (d.missCount + 1) else d.missCount

/-- A feedback loss: the count of an unanswered record has reached the limit (R132). -/
abbrev Drive.Lost (d : Drive) (limit : Nat) : Prop := d.answerPending = true ∧ limit ≤ d.missesAfter

/-- The drive record after the tests and the sending of a record (R123, R125). -/
def Drive.emitted (d : Drive) (cycle : BitVec 8) (position : Int) : Drive :=
  { d with answerPending := true, missCount := d.missesAfter, history := pushHistory d.history (cycle, position) }

/-- The causes that the tests of a record find, the limit before the misses (R123). -/
def emitCauses (x : Axis) (r : Setpoint) : List Cause :=
  (if hardLimit x.drive.live r.velocity = true then [.hardLimit] else []) ++
    if x.drive.Lost x.travel.missLimit then [.feedbackLost] else []

/-! ## The tests in their order -/

section tests

variable {s : State} {r : Setpoint} {found : List Cause} {d : Drive} {p : State × List Trigger}

theorem emitMiss_of_pending (drive : (s.axis r.axis).drive = d) (pending : d.answerPending = true) :
    emitMiss s r =
      let counted := s.setAxis r.axis { s.axis r.axis with drive := { d with missCount := d.missesAfter } }
      if d.Lost (s.axis r.axis).travel.missLimit then counted.raiseFault r.axis .feedbackLost else (counted, []) := by
  subst drive
  simp only [emitMiss, Drive.Lost, Drive.missesAfter, pending, if_true, true_and, ge_iff_le]

theorem emitMiss_of_answered (answered : ¬(s.axis r.axis).drive.answerPending = true) : emitMiss s r = (s, []) := if_neg answered

theorem Drive.missesAfter_of_answered (answered : ¬d.answerPending = true) : d.missesAfter = d.missCount := if_neg answered

theorem emitMiss_judged (judged : Judged r.axis s found d p) (new : .feedbackLost ∉ found) :
    Judged r.axis s (found ++ if d.Lost (s.axis r.axis).travel.missLimit then [.feedbackLost] else [])
      { d with missCount := d.missesAfter } ((emitMiss p.1 r).1, p.2 ++ (emitMiss p.1 r).2) := by
  have drive : (p.1.axis r.axis).drive = d := by rw [judged.axis]; rfl
  have travel : (p.1.axis r.axis).travel = (s.axis r.axis).travel := by rw [judged.axis]; rfl
  by_cases pending : d.answerPending = true
  · rw [emitMiss_of_pending drive pending, ← travel]
    exact (judged.setDrive { d with missCount := d.missesAfter }).test new (d.Lost (p.1.axis r.axis).travel.missLimit)
  · rw [emitMiss_of_answered (drive.symm ▸ pending), if_neg fun lost => pending lost.1, Drive.missesAfter_of_answered pending,
      List.append_nil, List.append_nil]
    exact judged

theorem emitRecord_judged (judged : Judged r.axis s found d p) (cycle : BitVec 8) :
    Judged r.axis s found { d with answerPending := true, history := pushHistory d.history (cycle, r.position) }
      (emitRecord p.1 cycle r, p.2) := by
  have drive : (p.1.axis r.axis).drive = d := by rw [judged.axis]; rfl
  unfold emitRecord
  dsimp only
  rw [drive]
  exact judged.setDrive _

end tests

/-- What the emission leaves of the axis of a record, of the Notice Set and of the evaluation. -/
theorem emitAxis_judged (cycle : BitVec 8) (s : State) (r : Setpoint) :
    let x := s.axis r.axis
    (emitAxis cycle s r).axis r.axis = x.judged (emitCauses x r) (x.drive.emitted cycle r.position) ∧
      (emitAxis cycle s r).notices = faultNotices r.axis (x.added (emitCauses x r)) s.notices ∧
      (emitAxis cycle s r).eval =
        s.eval.map fun e => { e with triggers := e.triggers ++ x.entryTriggers r.axis (emitCauses x r) } := by
  have limit := (Judged.start r.axis s).test (c := .hardLimit) List.not_mem_nil
    (hardLimit (s.axis r.axis).drive.live r.velocity = true)
  have new : Cause.feedbackLost ∉
      [] ++ if hardLimit (s.axis r.axis).drive.live r.velocity = true then [Cause.hardLimit] else [] := by
    split <;> simp
  obtain ⟨axis, notices, triggers⟩ := emitRecord_judged (emitMiss_judged limit new) cycle
  have eval : (emitRecord (emitMiss (emitLimit s r).1 r).1 cycle r).eval = s.eval := by
    rw [(emitRecord_tested _ cycle r).frame, (emitMiss_tested _ r).frame, (emitLimit_tested s r).frame]
  refine ⟨axis, notices, ?_⟩
  rw [List.nil_append] at triggers
  unfold emitAxis
  dsimp only
  rw [State.addTriggers_eval, eval]
  exact congrArg (fun ts => s.eval.map fun e => { e with triggers := e.triggers ++ ts }) triggers

theorem any_clearsHomed_emitCauses (x : Axis) (r : Setpoint) :
    (emitCauses x r).any Cause.clearsHomed = decide (x.drive.Lost x.travel.missLimit) := by
  unfold emitCauses
  by_cases hard : hardLimit x.drive.live r.velocity = true
  · by_cases lost : x.drive.Lost x.travel.missLimit
    · rw [if_pos hard, if_pos lost, decide_eq_true lost]; rfl
    · rw [if_pos hard, if_neg lost, decide_eq_false lost]; rfl
  · by_cases lost : x.drive.Lost x.travel.missLimit
    · rw [if_neg hard, if_pos lost, decide_eq_true lost]; rfl
    · rw [if_neg hard, if_neg lost, decide_eq_false lost]; rfl

theorem emitCauses_eq (x : Axis) (r : Setpoint) {found : List Cause}
    (both : hardLimit x.drive.live r.velocity = true → x.drive.Lost x.travel.missLimit → found = [.hardLimit, .feedbackLost])
    (limit : hardLimit x.drive.live r.velocity = true → ¬x.drive.Lost x.travel.missLimit → found = [.hardLimit])
    (loss : ¬hardLimit x.drive.live r.velocity = true → x.drive.Lost x.travel.missLimit → found = [.feedbackLost])
    (neither : ¬hardLimit x.drive.live r.velocity = true → ¬x.drive.Lost x.travel.missLimit → found = []) :
    emitCauses x r = found := by
  unfold emitCauses
  by_cases hard : hardLimit x.drive.live r.velocity = true
  · by_cases lost : x.drive.Lost x.travel.missLimit
    · rw [if_pos hard, if_pos lost, both hard lost]; rfl
    · rw [if_pos hard, if_neg lost, limit hard lost]; rfl
  · by_cases lost : x.drive.Lost x.travel.missLimit
    · rw [if_neg hard, if_pos lost, loss hard lost]; rfl
    · rw [if_neg hard, if_neg lost, neither hard lost]; rfl

/-- Of the causes of an emission, FEEDBACK_LOST alone clears HOMED (R116). -/
theorem any_clearsHomed_of_emission {causes : List Cause} (tested : ∀ c ∈ causes, c = .hardLimit ∨ c = .feedbackLost) :
    causes.any Cause.clearsHomed = decide (.feedbackLost ∈ causes) := by
  rw [Bool.eq_iff_iff, List.any_eq_true, decide_eq_true_iff]
  constructor
  · rintro ⟨c, mem, clears⟩
    rcases tested c mem with rfl | rfl
    · exact absurd clears (by decide)
    · exact mem
  · exact fun mem => ⟨_, mem, rfl⟩

theorem mem_emitCauses {x : Axis} {r : Setpoint} {c : Cause} (mem : c ∈ emitCauses x r) : c = .hardLimit ∨ c = .feedbackLost := by
  unfold emitCauses at mem
  rcases List.mem_append.mp mem with limit | loss
  · split at limit
    · exact .inl (List.mem_singleton.mp limit)
    · exact absurd limit List.not_mem_nil
  · split at loss
    · exact .inr (List.mem_singleton.mp loss)
    · exact absurd loss List.not_mem_nil

/-- HOMED is cleared where a cause clears it. -/
theorem homed_and_not {homed clears : Bool} {p : Prop} [Decidable p] (iff : clears = true ↔ p) :
    (homed && !clears) = if p then false else homed := by
  split
  · next holds => simp [iff.mpr holds]
  · next fails => simp [Bool.eq_false_iff.mpr (fails ∘ iff.mp)]

/-- Settles O29: the causes found are those of the tests in their order, and the axis takes them by its state. -/
theorem emissionTestsOfAxis : Obligations.EmissionTestsOfAxis := by
  intro s r cycle x misses lost hard drive on found both limit loss neither added
  have causes : emitCauses x r = found := by
    have tested := hardLimit_iff x.drive.live r.velocity
    exact emitCauses_eq x r (fun h => both (tested.mp h)) (fun h => limit (tested.mp h)) (fun h => loss (h ∘ tested.mpr))
      (fun h => neither (h ∘ tested.mpr))
  obtain ⟨axis, notices, eval⟩ := emitAxis_judged cycle s r
  rw [show s.axis r.axis = x from rfl, causes] at axis notices eval
  have cleared : found.any Cause.clearsHomed = true ↔ lost := by
    rw [← causes, any_clearsHomed_emitCauses]
    exact decide_eq_true_iff
  have sent : x.drive.emitted cycle r.position = drive := rfl
  rw [sent] at axis
  have others : ∀ a, a ≠ r.axis → (emitAxis cycle s r).axis a = s.axis a := fun a other =>
    (emitAxis_emitted cycle s r).others a (by simpa using other.symm)
  refine ⟨fun halting faulted => ?_, fun failing => ?_, others⟩
  · have live : x.Live := ⟨on, halting, faulted⟩
    rw [Axis.added_of_live live] at notices
    refine ⟨?_, notices, ?_⟩
    · by_cases none : found = []
      · have kept : ¬lost := fun lost => by simpa [none] using cleared.mpr lost
        rw [axis, none, Axis.judged_nil, if_pos rfl, if_pos rfl, if_neg kept]
      · rw [axis, Axis.judged_of_live live none, homed_and_not cleared, if_neg none, if_neg none]
    · rw [eval]
      by_cases none : found = []
      · rw [none, Axis.entryTriggers_nil, if_pos rfl]
      · rw [Axis.entryTriggers_of_live live none, if_neg none]
  · have idle := Axis.Failing.not_live failing
    have tested : added.any Cause.clearsHomed = decide (.feedbackLost ∈ added) :=
      any_clearsHomed_of_emission fun c mem => mem_emitCauses (causes ▸ List.mem_of_mem_filter mem)
    rw [Axis.added_of_failing failing] at notices
    refine ⟨?_, notices, ?_⟩
    · rw [axis, Axis.judged_of_not_live idle, Axis.added_of_failing failing, homed_and_not (tested ▸ decide_eq_true_iff)]
    · rw [eval, Axis.entryTriggers_of_not_live idle]
      simp

end Sys2Proof.Machine
end

section
/-! A FEEDBACK record taken by its axis: what it stores and captures, the causes it gives in the order of its steps, and what they
leave (R112, R113, R126 to R134). -/

namespace Sys2Proof.Machine

/-! ## The tests of a record, one at a time -/

section tests

variable (s : State) (a : Fin Config.axisCount) (x : Axis) (cycle : BitVec 8) (r : FeedbackRecord)

theorem liveChange_iff (before : Option Switches) (after : Switches) :
    liveChange before after = true ↔ ∃ i, before = some i ∧ i ≠ after := by
  cases before <;> simp [liveChange]

theorem homeEdge_iff (before : Option Switches) (after : Switches) :
    homeEdge before after = true ↔ after.home = true ∧ ∃ i, before = some i ∧ i.home = false := by
  cases before <;> simp [homeEdge, and_comm]

theorem homeLimit_iff (v : Int) (i : Switches) :
    homeLimit v i = true ↔ (v < 0 ∧ i.low = true) ∨ (v > 0 ∧ i.high = true) := by
  simp [homeLimit]

theorem raisesSwitch_iff (standing : Bool) (before : Option Switches) (image reported : Switches) :
    raisesSwitch standing before image reported = true ↔
      if standing then liveChange before image = true
      else (liveChange before image = true ∨ before = none) ∧ image ≠ reported := by
  cases standing <;> simp [raisesSwitch]

/-- The record shows the home edge in phase SEEK (R112). -/
abbrev Axis.MeetsHome : Prop := x.state = .homing .seek ∧ homeEdge x.drive.live (x.imageOf r) = true

/-- The record shows the limit in the search direction in phase SEEK, and no home edge (R113). -/
abbrev Axis.MeetsLimit : Prop :=
  x.state = .homing .seek ∧ ¬x.MeetsHome r ∧ homeLimit x.travel.homeVelocity (x.imageOf r) = true

/-- The position of a fresh record is too far from the one sent in its cycle (R128, R129). -/
def Drive.tooFar (d : Drive) (t : Travel) (cycle : BitVec 8) (actual : Int) : Bool :=
  (matchCycle d.history cycle).any fun c => decide (mag (followingError t.kind c actual) > t.feLimit)

/-- The drive record after its match with a fresh or a stale record (R128, R129). -/
def Drive.matched (d : Drive) (kind : AxisKind) (cycle : BitVec 8) (actual : Int) : Drive :=
  match matchCycle d.history cycle with
  | none => d
  | some c => { d with followError := some (followingError kind c actual), missCount := 0, answerPending := false }

theorem tooFar_iff (d : Drive) (t : Travel) (actual : Int) :
    d.tooFar t cycle actual = true ↔
      ∃ c, matchCycle d.history cycle = some c ∧ mag (followingError t.kind c actual) > t.feLimit := by
  simp [Drive.tooFar, Option.any_eq_true]

theorem followingError_eq (kind : AxisKind) (c actual : Int) :
    followingError kind c actual = if kind = .continuous then wrap (c - actual % 2 ^ 32) else c - actual := by
  cases kind <;> rfl

/-- The drive record after steps 1 and 2 (R127, R133). -/
def Axis.storedDrive : Drive :=
  { x.drive with actual := some r.actual, faultBit := r.fault, live := some (x.imageOf r) }

/-- The axis after steps 1 to 3, before any cause is judged (R112, R127, R133). -/
def Axis.recorded : Axis := (storeActual x r).captured r

/-- The state in which the causes of a record are judged. -/
def State.recordedBy : State := (s.setAxis a (storeActual (s.axis a) r)).refreshedBy a r

/-- The causes of a record, in the order of its steps (R126). -/
def recordCauses : List Cause :=
  (((if x.MeetsLimit r then [.homeLimit] else []) ++ if x.drive.tooFar x.travel cycle r.actual = true then [.following] else []) ++
      if r.fault = true then [.driveFault] else []) ++
    if hardLimit (some (x.imageOf r)) x.velocity = true then [.hardLimit] else []

end tests

/-! ## The axis before the causes -/

section recorded

variable {s : State} {a : Fin Config.axisCount} {x : Axis} {r : FeedbackRecord}

theorem recorded_of_meetsHome (edge : x.MeetsHome r) :
    x.recorded r = { captureHome x r.actual with drive := x.storedDrive r } := if_pos edge

theorem recorded_of_not_meetsHome (passed : ¬x.MeetsHome r) : x.recorded r = { x with drive := x.storedDrive r } := if_neg passed

/-- The record moves P, O and the state of its axis alone, next to its drive record. -/
theorem recorded_eq (x : Axis) (r : FeedbackRecord) :
    x.recorded r =
      { x with
        position := (x.recorded r).position, offset := (x.recorded r).offset, state := (x.recorded r).state,
        drive := x.storedDrive r } := by
  by_cases edge : x.MeetsHome r
  · rw [recorded_of_meetsHome edge]; rfl
  · rw [recorded_of_not_meetsHome edge]

theorem recorded_state (x : Axis) (r : FeedbackRecord) :
    (x.recorded r).state = if x.MeetsHome r then .homing .settle else x.state := by
  by_cases edge : x.MeetsHome r
  · rw [recorded_of_meetsHome edge, if_pos edge]; rfl
  · rw [recorded_of_not_meetsHome edge, if_neg edge]

theorem recorded_state_of_not_seek (elsewhere : x.state ≠ .homing .seek) : (x.recorded r).state = x.state := by
  rw [recorded_state, if_neg fun edge => elsewhere edge.1]

theorem recorded_off_iff : (x.recorded r).state = .off ↔ x.state = .off := by
  rw [recorded_state]
  split
  · next edge => simp [edge.1]
  · rfl

theorem recorded_live (live : x.Live) : (x.recorded r).Live := by
  unfold Axis.Live
  rw [recorded_state]
  split
  · simp
  · exact live

theorem recorded_failing (failing : x.Failing) : (x.recorded r).state = x.state :=
  recorded_state_of_not_seek (by rcases failing with state | state <;> simp [state])

theorem recordedBy_axis : (s.recordedBy a r).axis a = (s.axis a).recorded r := by
  rw [State.recordedBy, refreshedBy_axis, State.axis_setAxis_same]
  rfl

end recorded

/-! ## The causes in their order -/

section steps

variable {s u : State} {a : Fin Config.axisCount} {found : List Cause} {d : Drive} {p : State × List Trigger} {r : FeedbackRecord}

theorem matchRecord_of_stale {cycle : BitVec 8} (stale : matchCycle (u.axis a).drive.history cycle = none) :
    matchRecord u a cycle r = (u, []) := by
  simp only [matchRecord, stale]

theorem matchRecord_of_fresh {cycle : BitVec 8} {c : Int} (fresh : matchCycle (u.axis a).drive.history cycle = some c) :
    matchRecord u a cycle r =
      let fe := followingError (u.axis a).travel.kind c r.actual
      let matched :=
        u.setAxis a
          { u.axis a with drive := { (u.axis a).drive with followError := some fe, missCount := 0, answerPending := false } }
      if mag fe > (u.axis a).travel.feLimit then matched.raiseFault a .following else (matched, []) := by
  simp only [matchRecord, fresh]

theorem matchRecord_judged (judged : Judged a u found d p) (new : .following ∉ found) (cycle : BitVec 8) :
    Judged a u (found ++ if d.tooFar (u.axis a).travel cycle r.actual = true then [.following] else [])
      (d.matched (u.axis a).travel.kind cycle r.actual)
      ((matchRecord p.1 a cycle r).1, p.2 ++ (matchRecord p.1 a cycle r).2) := by
  have drive : (p.1.axis a).drive = d := by rw [judged.axis]; rfl
  have travel : (p.1.axis a).travel = (u.axis a).travel := by rw [judged.axis]; rfl
  rw [← travel]
  subst drive
  cases fresh : matchCycle (p.1.axis a).drive.history cycle with
  | none =>
    rw [matchRecord_of_stale fresh]
    simp only [Drive.tooFar, Drive.matched, fresh]
    simpa using judged
  | some c =>
    rw [matchRecord_of_fresh fresh]
    simp only [Drive.tooFar, Drive.matched, fresh, Option.any_some, decide_eq_true_iff]
    exact (judged.setDrive _).test new (mag (followingError (p.1.axis a).travel.kind c r.actual) > (p.1.axis a).travel.feLimit)

theorem limitRecord_judged (judged : Judged a u found d p) (new : .hardLimit ∉ found) :
    Judged a u (found ++ if hardLimit d.live (u.axis a).velocity = true then [.hardLimit] else []) d
      ((limitRecord p.1 a).1, p.2 ++ (limitRecord p.1 a).2) := by
  have drive : (p.1.axis a).drive = d := by rw [judged.axis]; rfl
  have velocity : (p.1.axis a).velocity = (u.axis a).velocity := by rw [judged.axis]; rfl
  rw [← velocity]
  subst drive
  exact judged.test new (hardLimit (p.1.axis a).drive.live (p.1.axis a).velocity = true)

end steps

theorem Axis.judged_ne_off {x : Axis} {found : List Cause} {d : Drive} (on : x.state ≠ .off) : (x.judged found d).state ≠ .off := by
  show (if x.Live ∧ found ≠ [] then .halting else x.state) ≠ AxisState.off
  split
  · nofun
  · exact on

section handled

variable (s : State) (a : Fin Config.axisCount) (cycle : BitVec 8) (r : FeedbackRecord)

/-- The triggers of the refresh of a record (R133). -/
def recordChange : List Trigger := switchTriggers a (s.axis a).drive.live ((s.axis a).imageOf r)

theorem refreshSwitches_storeActual :
    refreshSwitches (s.setAxis a (storeActual (s.axis a) r)) a r =
      ((homeLimitTest (s.recordedBy a r) a (storeActual (s.axis a) r) r).1,
        recordChange s a r ++ (homeLimitTest (s.recordedBy a r) a (storeActual (s.axis a) r) r).2) := by
  rw [refreshSwitches_eq, State.axis_setAxis_same]
  rfl

theorem meetsLimit_iff (x : Axis) :
    (((storeActual x r).captured r).state = .homing .seek ∧
        homeLimit (storeActual x r).travel.homeVelocity ((storeActual x r).imageOf r) = true) ↔ x.MeetsLimit r := by
  show (x.recorded r).state = _ ∧ homeLimit x.travel.homeVelocity (x.imageOf r) = true ↔ _
  rw [recorded_state]
  by_cases edge : x.MeetsHome r
  · simp [edge]
  · rw [if_neg edge]
    exact and_congr_right fun _ => (and_iff_right edge).symm

theorem homeLimitTest_judged :
    Judged a (s.recordedBy a r) (if (s.axis a).MeetsLimit r then [.homeLimit] else []) ((s.axis a).storedDrive r)
      (homeLimitTest (s.recordedBy a r) a (storeActual (s.axis a) r) r) := by
  have start := Judged.start a (s.recordedBy a r)
  have drive : ((s.recordedBy a r).axis a).drive = (s.axis a).storedDrive r := by rw [recordedBy_axis, recorded_eq]
  rw [drive] at start
  have tested := start.test (c := .homeLimit) List.not_mem_nil ((s.axis a).MeetsLimit r)
  have same : homeLimitTest (s.recordedBy a r) a (storeActual (s.axis a) r) r =
      if (s.axis a).MeetsLimit r then (s.recordedBy a r).raiseFault a .homeLimit else (s.recordedBy a r, []) :=
    if_congr (meetsLimit_iff r (s.axis a)) rfl rfl
  rw [same]
  simpa only [List.nil_append] using tested

/-- An OFF axis is refreshed, and nothing of it is judged. -/
theorem handleRecord_of_off (off : (s.axis a).state = .off) :
    handleRecord s a cycle r = (s.recordedBy a r, recordChange s a r) := by
  have passed : ¬(s.axis a).MeetsLimit r := fun limit => by simpa [off] using limit.1
  have untested : homeLimitTest (s.recordedBy a r) a (storeActual (s.axis a) r) r = (s.recordedBy a r, []) :=
    if_neg (mt (meetsLimit_iff r _).mp passed)
  have stays : ((s.recordedBy a r).axis a).state = .off := by rw [recordedBy_axis]; exact recorded_off_iff.mpr off
  unfold handleRecord
  dsimp only
  rw [refreshSwitches_storeActual, untested, if_pos stays, List.append_nil]

/-- The other axes are judged for the causes of the record, in the order of its steps, after the refresh. -/
theorem handleRecord_judged (on : (s.axis a).state ≠ .off) :
    ∃ ts, (handleRecord s a cycle r).2 = recordChange s a r ++ ts ∧
      Judged a (s.recordedBy a r) (recordCauses (s.axis a) cycle r)
        (((s.axis a).storedDrive r).matched (s.axis a).travel.kind cycle r.actual) ((handleRecord s a cycle r).1, ts) := by
  have one := homeLimitTest_judged s a r
  have travel : ((s.recordedBy a r).axis a).travel = (s.axis a).travel := by rw [recordedBy_axis, recorded_eq]
  have velocity : ((s.recordedBy a r).axis a).velocity = (s.axis a).velocity := by rw [recordedBy_axis, recorded_eq]
  have two := matchRecord_judged (r := r) one (by split <;> simp) cycle
  have three := two.test (c := .driveFault) (by split <;> split <;> simp) (r.fault = true)
  have four := limitRecord_judged three (by split <;> split <;> split <;> simp)
  have live : (((s.axis a).storedDrive r).matched (s.axis a).travel.kind cycle r.actual).live = some ((s.axis a).imageOf r) := by
    unfold Drive.matched
    split <;> rfl
  rw [travel, velocity, live] at four
  have tested : ((homeLimitTest (s.recordedBy a r) a (storeActual (s.axis a) r) r).1.axis a).state ≠ .off := by
    rw [one.axis, recordedBy_axis]
    exact Axis.judged_ne_off (mt recorded_off_iff.mp on)
  have handled : handleRecord s a cycle r =
      let four := matchRecord (homeLimitTest (s.recordedBy a r) a (storeActual (s.axis a) r) r).1 a cycle r
      let five := faultRecord four.1 a r
      let six := limitRecord five.1 a
      (six.1,
        recordChange s a r ++ (homeLimitTest (s.recordedBy a r) a (storeActual (s.axis a) r) r).2 ++ four.2 ++ five.2 ++ six.2) := by
    unfold handleRecord
    dsimp only
    rw [refreshSwitches_storeActual, if_neg tested]
  rw [handled]
  refine ⟨_, ?_, four⟩
  simp only [List.append_assoc]
  rfl

/-- The drive record that a FEEDBACK record leaves: an OFF axis keeps its match and its misses. -/
def Axis.takenDrive (x : Axis) (cycle : BitVec 8) (r : FeedbackRecord) : Drive :=
  if x.state = .off then x.storedDrive r else (x.storedDrive r).matched x.travel.kind cycle r.actual

/-- What a record leaves of its axis: the causes write its state, HOMED and its causes, and nothing else. -/
theorem handleRecord_axis :
    let x := s.axis a
    let y := (handleRecord s a cycle r).1.axis a
    y = { x with
      position := (x.recorded r).position, offset := (x.recorded r).offset, state := y.state, homed := y.homed,
      causes := y.causes, drive := x.takenDrive cycle r } := by
  intro x y
  by_cases off : x.state = .off
  · have taken : y = x.recorded r := by
      show (handleRecord s a cycle r).1.axis a = _
      rw [handleRecord_of_off s a cycle r off, recordedBy_axis]
    have passed : ¬x.MeetsHome r := fun edge => by simpa [off] using edge.1
    rw [taken, Axis.takenDrive, if_pos off, recorded_of_not_meetsHome passed]
  · obtain ⟨_, -, judged⟩ := handleRecord_judged s a cycle r off
    have taken := judged.axis
    rw [recordedBy_axis] at taken
    rw [show y = _ from taken, Axis.takenDrive, if_neg off]
    by_cases edge : x.MeetsHome r
    · rw [recorded_of_meetsHome edge]; rfl
    · rw [recorded_of_not_meetsHome edge]; rfl

theorem takenDrive_stored (x : Axis) :
    let d := x.takenDrive cycle r
    d.actual = some r.actual ∧ d.faultBit = r.fault ∧ d.live = some (x.imageOf r) ∧ d.history = x.drive.history ∧
      d.reported = x.drive.reported := by
  unfold Axis.takenDrive Drive.matched
  split
  · exact ⟨rfl, rfl, rfl, rfl, rfl⟩
  · split <;> exact ⟨rfl, rfl, rfl, rfl, rfl⟩

/-- A stale record, or one of an OFF axis, is not matched (R128). -/
theorem takenDrive_of_unmatched {x : Axis} (unmatched : x.state = .off ∨ matchCycle x.drive.history cycle = none) :
    x.takenDrive cycle r = x.storedDrive r := by
  rcases unmatched with off | stale
  · exact if_pos off
  · unfold Axis.takenDrive Drive.matched
    split
    · rfl
    · rw [show matchCycle (x.storedDrive r).history cycle = none from stale]

theorem takenDrive_of_fresh {x : Axis} {c : Int} (on : x.state ≠ .off) (fresh : matchCycle x.drive.history cycle = some c) :
    x.takenDrive cycle r =
      { x.storedDrive r with
        followError := some (followingError x.travel.kind c r.actual), missCount := 0, answerPending := false } := by
  unfold Axis.takenDrive Drive.matched
  rw [if_neg on, show matchCycle (x.storedDrive r).history cycle = some c from fresh]

end handled

/-! ## The other axes -/

/-- Every axis but this one stands. -/
def SameElsewhere (a : Fin Config.axisCount) (s t : State) : Prop := ∀ b, b ≠ a → t.axis b = s.axis b

namespace SameElsewhere

variable {a : Fin Config.axisCount} {s t u : State}

theorem trans (first : SameElsewhere a s t) (second : SameElsewhere a t u) : SameElsewhere a s u :=
  fun b other => (second b other).trans (first b other)

theorem setAxis (s : State) (a : Fin Config.axisCount) (x : Axis) : SameElsewhere a s (s.setAxis a x) :=
  fun b other => State.axis_setAxis_of_ne s a b x other

theorem raiseFaultWhere (s : State) (a : Fin Config.axisCount) (c : Cause) (test : Prop) [Decidable test] :
    SameElsewhere a s (if test then s.raiseFault a c else (s, [])).1 := fun b other => by
  split
  · exact raiseFault_other s a b c other
  · rfl

end SameElsewhere

theorem matchRecord_sameElsewhere (s : State) (a : Fin Config.axisCount) (cycle : BitVec 8) (r : FeedbackRecord) :
    SameElsewhere a s (matchRecord s a cycle r).1 := by
  cases fresh : matchCycle (s.axis a).drive.history cycle with
  | none =>
    rw [matchRecord_of_stale fresh]
    exact fun _ _ => rfl
  | some c =>
    rw [matchRecord_of_fresh fresh]
    exact .trans (.setAxis _ _ _)
      (.raiseFaultWhere _ a .following (mag (followingError (s.axis a).travel.kind c r.actual) > (s.axis a).travel.feLimit))

theorem handleRecord_sameElsewhere (s : State) (a : Fin Config.axisCount) (cycle : BitVec 8) (r : FeedbackRecord) :
    SameElsewhere a s (handleRecord s a cycle r).1 := by
  have recorded : SameElsewhere a s (s.recordedBy a r) := .trans (.setAxis _ _ _) (.setAxis _ a _)
  have two : SameElsewhere a s (homeLimitTest (s.recordedBy a r) a (storeActual (s.axis a) r) r).1 :=
    recorded.trans (.raiseFaultWhere _ a .homeLimit _)
  unfold handleRecord
  dsimp only
  rw [refreshSwitches_storeActual]
  split
  · exact two
  · exact ((two.trans (matchRecord_sameElsewhere _ a cycle r)).trans (.raiseFaultWhere _ a .driveFault _)).trans
      (.raiseFaultWhere _ a .hardLimit _)

/-! ## What a record leaves of its axis -/

/-- The home edge in the bits of the record: the mask does not hide the switch (R112, R133). -/
theorem meetsHome_iff (x : Axis) (r : FeedbackRecord) :
    x.MeetsHome r ↔
      x.state = .homing .seek ∧ x.travel.switchMask.home = false ∧ r.switches.home = true ∧
        ∃ b, x.drive.live = some b ∧ b.home = false := by
  have image : (x.imageOf r).home = (r.switches.home && !x.travel.switchMask.home) := rfl
  rw [Axis.MeetsHome, homeEdge_iff, image]
  simp only [Bool.and_eq_true, Bool.not_eq_true']
  tauto

theorem mem_recordCauses_of_fault {x : Axis} {cycle : BitVec 8} {r : FeedbackRecord} (fault : r.fault = true) :
    .driveFault ∈ recordCauses x cycle r := by
  unfold recordCauses
  rw [if_pos fault]
  simp

/-- A cause that a round has found stands in the record of its axis afterwards (R116, R117). -/
theorem Axis.judged_failing {x : Axis} {found : List Cause} {d : Drive} {c : Cause} (on : x.state ≠ .off) (mem : c ∈ found) :
    (x.judged found d).Failing ∧ c ∈ (x.judged found d).causes := by
  rcases x.state_cases with off | failing | live
  · exact absurd off on
  · rw [Axis.judged_of_not_live failing.not_live, Axis.added_of_failing failing]
    refine ⟨failing, List.mem_append.mpr ?_⟩
    by_cases seen : c ∈ x.causes
    · exact .inl seen
    · exact .inr (by simpa [seen] using mem)
  · rw [Axis.judged_of_live live (List.ne_nil_of_mem mem)]
    exact ⟨.inl rfl, mem⟩

/-- Settles O33: the record writes its drive record, and P, O and the state at a home edge; the causes write the rest. -/
theorem feedbackRecordTaken : Obligations.FeedbackRecordTaken := by
  intro s a cycle r x y fresh edge
  have whole := handleRecord_axis s a cycle r
  have drive : y.drive = x.takenDrive cycle r := congrArg Axis.drive whole
  have position : y.position = (x.recorded r).position := (congrArg Axis.position whole :)
  have offset : y.offset = (x.recorded r).offset := (congrArg Axis.offset whole :)
  obtain ⟨actual, faultBit, live, history, reported⟩ := takenDrive_stored cycle r x
  rw [drive]
  refine ⟨actual, faultBit, live, history, reported, ?_, ?_, ?_, ?_, ?_, ?_, ?_, ?_, ?_⟩
  · intro unmatched
    rw [takenDrive_of_unmatched cycle r unmatched]
    exact ⟨rfl, rfl, rfl⟩
  · intro c on matched
    rw [takenDrive_of_fresh cycle r on matched, ← followingError_eq]
    exact ⟨rfl, rfl, rfl⟩
  · intro off
    show ((handleRecord s a cycle r).1.axis a).state = .off
    rw [handleRecord_of_off s a cycle r off, recordedBy_axis]
    exact recorded_off_iff.mpr off
  · intro on fault
    obtain ⟨_, -, judged⟩ := handleRecord_judged s a cycle r on
    have taken := judged.axis
    rw [recordedBy_axis] at taken
    rw [show y = _ from taken]
    exact Axis.judged_failing (mt recorded_off_iff.mp on) (mem_recordCauses_of_fault fault)
  · intro met
    rw [position, offset, recorded_of_meetsHome ((meetsHome_iff x r).mpr met)]
    exact ⟨rfl, rfl⟩
  · intro passed
    rw [position, offset, recorded_of_not_meetsHome (mt (meetsHome_iff x r).mp passed)]
    exact ⟨rfl, rfl⟩
  · rw [position, offset]
    exact whole
  · exact handleRecord_sameElsewhere s a cycle r
  · exact (handleRecord_step s a cycle r).frame

/-! ## The causes of a record and what they leave -/

section causes

variable {s : State} {a : Fin Config.axisCount} {x : Axis} {cycle : BitVec 8} {r : FeedbackRecord}

/-- The outcome of a test, given by its two cases. -/
theorem ite_eq_of_cases {α : Type} {test holds : Prop} [Decidable test] {l yes no : α} (iff : test ↔ holds)
    (found : holds → l = yes) (passed : ¬holds → l = no) : (if test then yes else no) = l := by
  split
  · next h => exact (found (iff.mp h)).symm
  · next h => exact (passed (mt iff.mpr h)).symm

theorem driveFault_mem_recordCauses_iff : .driveFault ∈ recordCauses x cycle r ↔ r.fault = true := by
  refine ⟨fun mem => ?_, mem_recordCauses_of_fault⟩
  unfold recordCauses at mem
  by_contra faultless
  rw [if_neg faultless] at mem
  revert mem
  split <;> split <;> split <;> simp

theorem feedbackLost_notMem_recordCauses : .feedbackLost ∉ recordCauses x cycle r := by
  unfold recordCauses
  split <;> split <;> split <;> split <;> simp

/-- Of the causes of a record, DRIVE_FAULT alone clears HOMED (R116). -/
theorem any_clearsHomed_of_record {causes : List Cause} (answered : .feedbackLost ∉ causes) :
    causes.any Cause.clearsHomed = decide (.driveFault ∈ causes) := by
  rw [Bool.eq_iff_iff, List.any_eq_true, decide_eq_true_iff]
  constructor
  · rintro ⟨c, mem, clears⟩
    rw [clearsHomed_eq, Bool.or_eq_true, decide_eq_true_iff, decide_eq_true_iff] at clears
    rcases clears with rfl | rfl
    · exact mem
    · exact absurd mem answered
  · exact fun mem => ⟨_, mem, rfl⟩

/-- What the refresh leaves of the axis, next to P, O and the drive record. -/
theorem recorded_kept (x : Axis) (r : FeedbackRecord) :
    (x.recorded r).causes = x.causes ∧ (x.recorded r).homed = x.homed := by
  rw [recorded_eq]
  exact ⟨rfl, rfl⟩

theorem recordedBy_notices :
    (s.recordedBy a r).notices =
      if raisesSwitch (s.standing .switch a.val) (s.axis a).drive.live ((s.axis a).imageOf r) (s.axis a).drive.reported = true then
        raiseInto .switch a.val .switch s.notices
      else s.notices := by
  unfold State.recordedBy State.refreshedBy
  rw [State.axis_setAxis_same]
  rfl

/-- A live axis without a cause goes on as the refresh leaves it, and the causes of a record make its fault entry. -/
theorem handleRecord_of_live (live : (s.axis a).Live) :
    let x := s.axis a
    let y := (handleRecord s a cycle r).1.axis a
    let found := recordCauses x cycle r
    (found = [] → y.state = (x.recorded r).state ∧ y.causes = x.causes ∧ y.homed = x.homed) ∧
      (found ≠ [] → y.state = .halting ∧ y.causes = found ∧ y.homed = (x.homed && !r.fault)) ∧
      (handleRecord s a cycle r).1.notices = faultNotices a found (s.recordedBy a r).notices ∧
      (handleRecord s a cycle r).2 =
        recordChange s a r ++ if found = [] then [] else [{ kind := .axisEvent, index := a.val }] := by
  intro x y found
  obtain ⟨ts, produced, taken, notices, triggers⟩ := handleRecord_judged s a cycle r live.1
  have stays : (x.recorded r).Live := recorded_live live
  obtain ⟨causes, homed⟩ := recorded_kept x r
  rw [recordedBy_axis] at taken notices triggers
  rw [Axis.added_of_live stays] at notices
  have taken : y = (x.recorded r).judged found _ := taken
  have fault : found.any Cause.clearsHomed = r.fault := by
    rw [any_clearsHomed_of_record feedbackLost_notMem_recordCauses, Bool.eq_iff_iff, decide_eq_true_iff]
    exact driveFault_mem_recordCauses_iff
  refine ⟨fun none => ?_, fun entry => ?_, notices, ?_⟩
  · rw [taken, none, Axis.judged_nil]
    exact ⟨rfl, causes, homed⟩
  · rw [taken, Axis.judged_of_live stays entry, fault, homed]
    exact ⟨rfl, rfl, rfl⟩
  · rw [produced, show ts = _ from triggers]
    refine congrArg _ ?_
    split
    · next none => exact (congrArg _ none).trans (Axis.entryTriggers_nil _)
    · next entry => exact Axis.entryTriggers_of_live stays entry

/-- A failing axis adds the causes that it has not seen, without a trigger. -/
theorem handleRecord_of_failing (failing : (s.axis a).Failing) :
    let x := s.axis a
    let y := (handleRecord s a cycle r).1.axis a
    let added := (recordCauses x cycle r).filter fun c => decide (c ∉ x.causes)
    y.state = x.state ∧ y.causes = x.causes ++ added ∧ y.homed = (x.homed && !decide (.driveFault ∈ added)) ∧
      (handleRecord s a cycle r).1.notices = faultNotices a added (s.recordedBy a r).notices ∧
      (handleRecord s a cycle r).2 = recordChange s a r := by
  intro x y added
  obtain ⟨ts, produced, taken, notices, triggers⟩ := handleRecord_judged s a cycle r failing.not_off
  have state := recorded_failing (r := r) failing
  have stays : (x.recorded r).Failing := by unfold Axis.Failing; rw [state]; exact failing
  obtain ⟨causes, homed⟩ := recorded_kept x r
  have new : (x.recorded r).added (recordCauses x cycle r) = added := by rw [Axis.added_of_failing stays, causes]
  rw [recordedBy_axis] at taken notices triggers
  have taken : y = (x.recorded r).judged (recordCauses x cycle r) _ := taken
  have fault : added.any Cause.clearsHomed = decide (.driveFault ∈ added) :=
    any_clearsHomed_of_record fun mem => feedbackLost_notMem_recordCauses (List.mem_of_mem_filter mem)
  rw [Axis.judged_of_not_live stays.not_live, new, causes, homed, fault] at taken
  rw [taken]
  refine ⟨state, rfl, rfl, ?_, ?_⟩
  · rw [← new]
    exact notices
  · rw [produced, show ts = _ from triggers, Axis.entryTriggers_of_not_live stays.not_live, List.append_nil]

theorem handleRecord_of_off_axis (off : (s.axis a).state = .off) :
    (handleRecord s a cycle r).1.axis a = { s.axis a with drive := (s.axis a).storedDrive r } := by
  rw [handleRecord_of_off s a cycle r off, recordedBy_axis,
    recorded_of_not_meetsHome fun edge => by simpa [off] using edge.1]

end causes

/-- Settles O32: the causes given are those of the tests in their order, and each kind of axis takes them as its lemma says. -/
theorem feedbackRecordIsJudged : Obligations.FeedbackRecordIsJudged := by
  intro s a cycle r x y image changed edge ahead fresh far hard switched first second third fourth notices
    isAhead notAhead isFar notFar isFault isHard notHard isSwitched notSwitched found added change
  have edgeIff : x.MeetsHome r ↔ edge := and_congr_right fun _ => homeEdge_iff _ _
  have aheadIff : x.MeetsLimit r ↔ ahead := and_congr_right fun _ => and_congr (not_congr edgeIff) (homeLimit_iff _ _)
  have farIff : x.drive.tooFar x.travel cycle r.actual = true ↔ far := by
    rw [tooFar_iff]
    simp only [followingError_eq]
    rfl
  have hardIff : hardLimit (some (x.imageOf r)) x.velocity = true ↔ hard := by
    rw [hardLimit_iff]
    exact ⟨fun ⟨_, rfl, active⟩ => active, fun active => ⟨_, rfl, active⟩⟩
  have causes : recordCauses x cycle r = found := by
    unfold recordCauses
    rw [ite_eq_of_cases aheadIff isAhead notAhead, ite_eq_of_cases farIff isFar notFar, ← isFault,
      ite_eq_of_cases hardIff isHard notHard]
  have raised : (s.recordedBy a r).notices = notices := by
    rw [recordedBy_notices]
    refine ite_eq_of_cases ?_ isSwitched notSwitched
    rw [raisesSwitch_iff, liveChange_iff]
    exact Iff.rfl
  have changes : recordChange s a r = change := by
    refine ite_eq_of_cases (liveChange_iff _ _) (fun live => ?_) (fun still => ?_)
    · exact if_pos live
    · exact if_neg still
  refine ⟨fun on halting faulted => ?_, fun failing => ?_, fun off => ?_⟩
  · obtain ⟨calm, entry, noted, produced⟩ := handleRecord_of_live (cycle := cycle) (r := r) ⟨on, halting, faulted⟩
    rw [show s.axis a = x from rfl, causes] at calm entry noted produced
    rw [raised] at noted
    rw [changes] at produced
    refine ⟨fun none => ?_, entry, noted, produced⟩
    obtain ⟨state, record, homed⟩ := calm none
    refine ⟨state.trans ?_, record, homed⟩
    rw [recorded_state]
    exact if_congr edgeIff rfl rfl
  · obtain ⟨state, record, homed, noted, produced⟩ := handleRecord_of_failing (cycle := cycle) (r := r) failing
    rw [show s.axis a = x from rfl, causes] at record homed noted
    rw [raised] at noted
    rw [changes] at produced
    exact ⟨state, record, homed, noted, produced⟩
  · have kept : y = _ := handleRecord_of_off_axis off
    rw [kept, handleRecord_of_off s a cycle r off]
    exact ⟨off, rfl, rfl, raised, changes⟩

end Sys2Proof.Machine
end

section
/-! The Target Mapper: one axis mapped, its source and its target, its feedforward, and the extended target of a WOUND axis
(R62 to R74). -/

namespace Sys2Proof.Machine

/-! ## One axis of the evaluation -/

theorem exec_targetMapping {s : State} {ev : Evaluation} {a : Fin Config.axisCount} (inFlight : s.eval = some ev)
    (stage : ev.stage = .mapping a) : exec .targetMapping s = .next (mapOneAxis s ev a).settle := by
  show execTargetMapping s = _
  unfold execTargetMapping
  simp only [inFlight, stage]
  rfl

/-- The site-change flag is cleared with the last axis (R58). -/
theorem mapOneAxis_site (s : State) (ev : Evaluation) (a : Fin Config.axisCount) :
    (mapOneAxis s ev a).site = { s.site with changed := s.site.changed && decide (a.val + 1 < 24) } := by
  show ({ s.site with changed := if a.val + 1 < 24 then s.site.changed else false } : Site) = _
  by_cases more : a.val + 1 < 24 <;> simp [more]

/-- Settles O18: the mapping of one axis writes that axis, the site-change flag and the evaluation. -/
theorem axisIsMapped : Obligations.AxisIsMapped := by
  intro s ev a inFlight stage x th quiet
  refine ⟨mapOneAxis s ev a, exec_targetMapping inFlight stage, ?_, ?_, fun b other => ?_, mapOneAxis_site s ev a, rfl, rfl⟩
  · exact State.axis_setAxis_same s a _
  · exact State.axis_setAxis_same s a _
  · exact State.axis_setAxis_of_ne s a b _ other

/-! ## Sources and targets -/

theorem within_eq_false_iff {lo hi v : Int} : within lo hi v = false ↔ v < lo ∨ hi < v := by
  rw [Bool.eq_false_iff, Ne, within_iff]
  omega

section target

variable {s : State} {x : Axis} {epoch : Int}

/-- A CONTINUOUS or WOUND axis follows the angle of its target (R67). -/
theorem axisTarget_of_ne_bounded (turns : x.travel.kind ≠ .bounded) :
    axisTarget s x epoch = ((x.target.offset.toNat : Int) + scaledSource s x epoch) % 2 ^ 32 ∧
      targetClamps x.travel (unclampedTarget s x epoch) = false := by
  unfold axisTarget targetClamps unclampedTarget
  cases kind : x.travel.kind with
  | bounded => exact absurd kind turns
  | continuous | wound => exact ⟨rfl, rfl⟩

/-- A BOUNDED axis follows its target clamped to the soft limits (R66). -/
theorem axisTarget_of_bounded (bounded : x.travel.kind = .bounded) :
    let free := x.target.offset.toInt + scaledSource s x epoch
    axisTarget s x epoch =
        (if free < x.travel.softLow then x.travel.softLow else if free > x.travel.softHigh then x.travel.softHigh else free) ∧
      (targetClamps x.travel (unclampedTarget s x epoch) = true ↔ free < x.travel.softLow ∨ free > x.travel.softHigh) := by
  simp [axisTarget, targetClamps, unclampedTarget, bounded, readOffset, clamp, within_eq_false_iff]

end target

/-- Settles O19: the target by the kind of the axis, and the value of each source. -/
theorem targetFollowsSourceAndKind : Obligations.TargetFollowsSourceAndKind := by
  refine ⟨fun s ev x => ?_, fun s t e => ⟨fun b index => ⟨fun source => ?_, fun source => ?_⟩, fun source => ?_, fun source => ?_,
    fun a source index => ?_⟩⟩
  · intro v read g y
    have scaled : scaledSource s x ev.epoch = g := rfl
    refine ⟨fun turns => ?_, fun bounded => ?_⟩
    · rw [← scaled]
      exact axisTarget_of_ne_bounded turns
    · rw [← scaled]
      exact axisTarget_of_bounded bounded
  · simp only [sourceValue, source, State.bodyLongitude, index, indexOf_val, Option.map_some, Option.getD_some]
  · simp only [sourceValue, source, State.bodyLatitude, index, indexOf_val, Option.map_some, Option.getD_some]
  · simp only [sourceValue, source]
    rfl
  · simp only [sourceValue, source]
  · simp only [sourceValue, source, State.leaderTarget, index, indexOf_val, Option.map_some, Option.getD_some]

/-! ## Feedforward -/

/-- The leader of a follower is one of the axes suppressed before it (R73). -/
theorem leaderSuppressed_iff (t : Target) (suppressed : List (Fin Config.axisCount)) :
    leaderSuppressed t suppressed = true ↔ t.source = .follow ∧ ∃ a ∈ suppressed, a.val = t.index := by
  simp [leaderSuppressed]

theorem suppressedIn_iff (s : State) (ev : Evaluation) (x : Axis) :
    suppressedIn s ev x = true ↔
      x.suppress = true ∨ ev.epochSet = true ∨ ev.swapped = true ∨ s.site.changed = true ∨
        (x.target.source = .follow ∧ ∃ a ∈ ev.suppressed, a.val = x.target.index) := by
  simp only [suppressedIn, Bool.or_eq_true, leaderSuppressed_iff, or_assoc]

theorem mapAxis_feedforward (s : State) (ev : Evaluation) (x : Axis) :
    (mapAxis s ev x).feedforward = if suppressedIn s ev x = true then 0 else feedforwardOf x (mapAxis s ev x).lastTarget := rfl

/-- Settles O20: the feedforward is 0 where it is suppressed, and else the move of the target, clamped to vmax. -/
theorem feedforwardOfMappedAxis : Obligations.FeedforwardOfMappedAxis := by
  intro s ev x y moved quiet
  have suppressed := suppressedIn_iff s ev x
  refine ⟨suppressed, fun isQuiet => ?_, fun loud => ?_⟩
  · rw [mapAxis_feedforward, if_pos (suppressed.mpr isQuiet)]
  · rw [mapAxis_feedforward, if_neg (mt suppressed.mp loud)]
    rfl

/-! ## The extended target of a WOUND axis -/

section wound

variable {lw p th : Int}

theorem nearestInWind_emod (lo : 0 ≤ th) (hi : th < 2 ^ 32) : nearestInWind lw p th % 2 ^ 32 = th := by
  unfold nearestInWind wrap angle turn halfTurn
  dsimp only
  split
  · omega
  · split <;> omega

/-- From a position within the wind, one turn inward is enough (R69). -/
theorem nearestInWind_within (wide : 2 ^ 32 ≤ lw) (lower : -lw ≤ p) (upper : p ≤ lw) :
    -lw ≤ nearestInWind lw p th ∧ nearestInWind lw p th ≤ lw := by
  unfold nearestInWind wrap angle turn halfTurn
  dsimp only
  split
  · omega
  · split <;> omega

theorem extendedTarget_of_within (lower : -lw ≤ nearestInWind lw p th) (upper : nearestInWind lw p th ≤ lw) :
    extendedTarget lw p th = nearestInWind lw p th := if_pos (within_iff.mpr ⟨lower, upper⟩)

/-- Past the upper limit, the outermost position within the wind that shows the angle (R70). -/
theorem extendedTarget_of_above (beyond : nearestInWind lw p th > lw ∨ nearestInWind lw p th < -lw) (above : p > lw) :
    extendedTarget lw p th = if th = 0 then lw else lw - 2 ^ 32 + th := by
  have outside : ¬within (-lw) lw (nearestInWind lw p th) = true := fun inside => by
    obtain ⟨lower, upper⟩ := within_iff.mp inside
    omega
  exact (if_neg outside).trans (if_pos above)

/-- Past the lower limit likewise (R70). -/
theorem extendedTarget_of_below (wide : 2 ^ 32 ≤ lw) (beyond : nearestInWind lw p th > lw ∨ nearestInWind lw p th < -lw)
    (below : p < -lw) : extendedTarget lw p th = -lw + th := by
  have outside : ¬within (-lw) lw (nearestInWind lw p th) = true := fun inside => by
    obtain ⟨lower, upper⟩ := within_iff.mp inside
    omega
  exact (if_neg outside).trans ((if_neg (by omega)).trans (if_pos below))

end wound

/-- Settles O21: from within the wind or with the nearest position within it, that position; else the outermost one. -/
theorem extendedTargetStaysInWind : Obligations.ExtendedTargetStaysInWind := by
  intro wind p th positive lo hi lw t0 t1 t
  have wide : 2 ^ 32 ≤ lw := by omega
  have shows : t1 % 2 ^ 32 = th := nearestInWind_emod lo hi
  have near (lower : -lw ≤ t1) (upper : t1 ≤ lw) : t = t1 := extendedTarget_of_within lower upper
  have inside (lower : -lw ≤ p) (upper : p ≤ lw) : -lw ≤ t1 ∧ t1 ≤ lw := nearestInWind_within wide lower upper
  have above (out : p > lw) (beyond : t1 > lw ∨ t1 < -lw) : t = if th = 0 then lw else lw - 2 ^ 32 + th :=
    extendedTarget_of_above beyond out
  have below (out : p < -lw) (beyond : t1 > lw ∨ t1 < -lw) : t = -lw + th := extendedTarget_of_below wide beyond out
  have cases : (t = t1 ∧ -lw ≤ t1 ∧ t1 ≤ lw) ∨ t = (if th = 0 then lw else lw - 2 ^ 32 + th) ∨ t = -lw + th := by
    by_cases within : -lw ≤ t1 ∧ t1 ≤ lw
    · exact .inl ⟨near within.1 within.2, within⟩
    · have beyond : t1 > lw ∨ t1 < -lw := by omega
      by_cases high : p > lw
      · exact .inr (.inl (above high beyond))
      · by_cases low : p < -lw
        · exact .inr (.inr (below low beyond))
        · exact absurd (inside (by omega) (by omega)) within
  have result : (-lw ≤ t ∧ t ≤ lw) ∧ t % 2 ^ 32 = th := by
    clear_value t t1
    rcases cases with ⟨same, lower, upper⟩ | outermost | outermost
    · omega
    · split at outermost <;> omega
    · omega
  refine ⟨result.1, result.2, fun lower upper => ?_, near, fun out beyond => ?_, fun out beyond => ?_⟩
  · exact near (inside lower upper).1 (inside lower upper).2
  · refine ⟨above out beyond, fun y upper same => ?_⟩
    have outermost := above out beyond
    clear_value t
    split at outermost <;> omega
  · refine ⟨below out beyond, fun y lower same => ?_⟩
    have outermost := below out beyond
    clear_value t
    omega

end Sys2Proof.Machine
end

section
/-! The axes after each reset: no notice waits that the end of the step could send, so their reported images stand (R77, R96, R119,
R135, R138). -/

namespace Sys2Proof.Machine

theorem offered_of_no_notices {s : State} (empty : s.notices = []) (classA : Bool) : s.offered classA = none := by
  simp [State.offered, empty]

/-- Without a notice, neither transmitter writes an axis. -/
theorem settle_axes_of_no_notices {s : State} (empty : s.notices = []) : s.settle.axes = s.axes := by
  obtain ⟨-, notices, axes, -, -⟩ := startD_other s
  have chosen : s.startD.chooseU.axes = s.startD.axes := by
    have offered := offered_of_no_notices (notices.trans empty)
    unfold State.chooseU
    simp only [offered]
    repeat' split
    all_goals rfl
  unfold State.settle State.startU
  split
  · rw [chosen, axes]
  · exact axes

theorem settle_axis_of_no_notices {s : State} (empty : s.notices = []) (a : Fin Config.axisCount) : s.settle.axis a = s.axis a :=
  congrArg (fun axes => Vector.get axes a) (settle_axes_of_no_notices empty)

/-- Settles O5: both resets empty the Notice Set, so the end of the step leaves the reset values of the axes. -/
theorem axesAfterResets : Obligations.AxesAfterResets := by
  intro s a
  refine ⟨⟨(powerOnState s).settle, rfl, ?_, ?_, ?_⟩, fun r rest head code bare => ⟨fun busy => ?_, fun idle => ?_⟩⟩
  · exact State.settle_site _
  · exact State.settle_cycle _
  · rw [settle_axis_of_no_notices rfl]
    exact axis_reset a
  · exact execute_held (by simpa [State.inFlight, Option.isSome_iff_ne_none] using busy)
  · refine ⟨_, exec_softReset_of_idle head code bare idle, State.settle_cycle _, State.settle_site _, ?_⟩
    rw [settle_axis_of_no_notices rfl]
    exact softResetState_axis s r a

end Sys2Proof.Machine
end

section
/-! The six axis commands, each under its own name and as AXIS_COMMAND: their refusals and their effects (R104 to R111, R184). -/

namespace Sys2Proof.Machine

/-! ## The rule of each command, case by case -/

section rules

variable {s : State} {a : Fin Config.axisCount}

theorem enableAxis_of_on (on : (s.axis a).state ≠ .off) : enableAxis s a = refuse s .state := if_pos on

theorem enableAxis_of_no_drive (off : (s.axis a).state = .off) (noDrive : (s.axis a).travel.node = 0) :
    enableAxis s a = refuse s .range := by
  simp only [enableAxis, off, noDrive, ne_eq, not_true_eq_false, if_false, if_true]

theorem enableAxis_of_unknown (off : (s.axis a).state = .off) (drive : (s.axis a).travel.node ≠ 0)
    (unknown : (s.axis a).drive.actual = none) : enableAxis s a = refuse s .state := by
  simp only [enableAxis, off, drive, unknown, ne_eq, not_true_eq_false, if_false]

/-- The position that an enabled axis would take lies beyond the soft limits (R105). -/
def Axis.EnabledOutside (x : Axis) (p : Int) : Prop :=
  x.travel.homeMode = .absolute ∧ x.travel.kind = .bounded ∧ (p < x.travel.softLow ∨ p > x.travel.softHigh)

theorem enabledPosition_by_kind (kind : AxisKind) (actual o : Int) :
    enabledPosition kind actual o = if kind = .continuous then (actual - o) % 2 ^ 32 else reduceExt (actual - o) := by
  cases kind <;> rfl

section known

variable {actual : Int} (off : (s.axis a).state = .off) (drive : (s.axis a).travel.node ≠ 0)
  (known : (s.axis a).drive.actual = some actual)

include off drive known

theorem enableAxis_of_search (mode : (s.axis a).travel.homeMode = .search) :
    enableAxis s a =
      acceptCommand s a
        { s.axis a with
          position := enabledPosition (s.axis a).travel.kind actual (s.axis a).offset, velocity := 0, state := .unhomed,
          homed := false } := by
  simp only [enableAxis, off, drive, known, mode, ne_eq, not_true_eq_false, if_false]

theorem enableAxis_of_outside
    (outside : (s.axis a).EnabledOutside (enabledPosition (s.axis a).travel.kind actual (s.axis a).offset)) :
    enableAxis s a = refuse s .range := by
  obtain ⟨mode, bounded, beyond⟩ := outside
  simp only [enableAxis, off, drive, known, mode, ne_eq, not_true_eq_false, if_false]
  exact if_pos ⟨bounded, by rw [within_eq_false_iff.mpr beyond]; rfl⟩

theorem enableAxis_of_absolute (mode : (s.axis a).travel.homeMode = .absolute)
    (inside : ¬(s.axis a).EnabledOutside (enabledPosition (s.axis a).travel.kind actual (s.axis a).offset)) :
    enableAxis s a =
      acceptCommand s a
        { s.axis a with
          position := enabledPosition (s.axis a).travel.kind actual (s.axis a).offset, velocity := 0, state := .holding,
          homed := true } := by
  simp only [enableAxis, off, drive, known, mode, ne_eq, not_true_eq_false, if_false]
  refine if_neg fun ⟨bounded, beyond⟩ => inside ⟨mode, bounded, within_eq_false_iff.mp ?_⟩
  simpa using beyond

end known

theorem disableAxis_of_allowed
    (allowed : ((s.axis a).state = .unhomed ∨ (s.axis a).state = .holding ∨ (s.axis a).state = .faulted) ∧ (s.axis a).velocity = 0) :
    disableAxis s a =
      acceptCommand s a
        { s.axis a with state := .off, homed := false, causes := [], drive := (s.axis a).drive.disabled } := if_pos allowed

theorem disableAxis_of_not_allowed
    (barred : ¬(((s.axis a).state = .unhomed ∨ (s.axis a).state = .holding ∨ (s.axis a).state = .faulted) ∧
      (s.axis a).velocity = 0)) : disableAxis s a = refuse s .state := if_neg barred

theorem homeAxis_of_showing (showing : s.mgmt.mode = .showing) : homeAxis s a = refuse s .mode := if_pos showing

theorem homeAxis_of_barred (setup : s.mgmt.mode = .setup)
    (barred : (s.axis a).travel.homeMode = .absolute ∨ ((s.axis a).state ≠ .unhomed ∧ (s.axis a).state ≠ .holding)) :
    homeAxis s a = refuse s .state := by
  rcases barred with mode | ⟨unhomed, holding⟩
  · simp only [homeAxis, setup, mode, reduceCtorEq, if_false, if_true]
  · simp only [homeAxis, setup, unhomed, holding, reduceCtorEq, or_self, if_false, ite_self]

theorem homeAxis_of_search (setup : s.mgmt.mode = .setup) (mode : (s.axis a).travel.homeMode = .search)
    (ready : (s.axis a).state = .unhomed ∨ (s.axis a).state = .holding) :
    homeAxis s a =
      acceptCommand s a
        { s.axis a with homed := false, state := .homing .seek, seekStart := (s.axis a).position, seekTravel := 0 } := by
  simp only [homeAxis, setup, mode, ready, reduceCtorEq, if_false, if_true]

theorem clearFaultAxis_of_barred (barred : (s.axis a).state ≠ .faulted ∨ (s.axis a).drive.faultBit = true) :
    clearFaultAxis s a = refuse s .state := by
  rcases barred with healthy | standing
  · exact if_pos healthy
  · simp only [clearFaultAxis, standing, if_true, ite_self]

theorem clearFaultAxis_of_faulted (faulted : (s.axis a).state = .faulted) (cleared : (s.axis a).drive.faultBit = false) :
    clearFaultAxis s a =
      acceptCommand s a
        { s.axis a with causes := [], state := if (s.axis a).homed then .holding else .unhomed } := by
  simp only [clearFaultAxis, faulted, cleared, ne_eq, not_true_eq_false, Bool.false_eq_true, if_false]

end rules

/-! ## The request of a command, executed -/

section request

variable {s : State} {r : Request} {rest : List Request} {i : Instr} {run : State → Fin Config.axisCount → Answer} {n : Byte}

theorem onAxis_of_axis {a : Fin Config.axisCount} (args : r.args = [codeByte a.val, n]) : onAxis run r s = run s a := by
  simp only [onAxis, args, codeByte_fin_toNat (by decide : Config.axisCount ≤ 256), indexOf_val]

theorem indexOf_eq_none {n k : Nat} (large : n ≤ k) : indexOf n k = none := by
  rw [Option.eq_none_iff_forall_ne_some]
  intro i found
  have := indexOf_eq_some_iff.mp found
  omega

/-- Two bytes whose first names no axis (R104). -/
theorem onAxis_of_no_axis {b : Byte} (args : r.args = [b, n]) (large : 24 ≤ b.toNat) : onAxis run r s = refuse s .range := by
  simp only [onAxis, args, indexOf_eq_none (n := Config.axisCount) large]

theorem onAxis_of_long {b more : Byte} {bytes : List Byte} (args : r.args = b :: n :: more :: bytes) :
    onAxis run r s = refuse s .range := by
  simp only [onAxis, args]

theorem commandRule_small {code : Byte} (named : commandRule code = some run) : code.toNat ≤ 5 := by
  by_contra large
  have none : commandRule code = none := by
    unfold commandRule
    split
    all_goals first | omega | rfl
  simp [none] at named

/-- An AXIS_COMMAND that names no axis or no command is refused (R104). -/
theorem runAxisCommand_of_unnamed
    (unnamed : ∀ (a : Fin Config.axisCount) (n : Nat), n ≤ 5 → r.args ≠ [codeByte a.val, codeByte n]) :
    runAxisCommand r s = refuse s .range := by
  unfold runAxisCommand
  split
  · next b c args =>
    split
    · next rule named =>
      refine onAxis_of_no_axis args ?_
      by_contra small
      refine unnamed ⟨b.toNat, Nat.lt_of_not_le small⟩ c.toNat (commandRule_small named) ?_
      rw [args, codeByte_of_toNat, codeByte_of_toNat]
    · rfl
  · rfl

variable (head : s.mgmt.requests = r :: rest) (code : r.code = 9) (idle : s.eval = none)

include head code idle

theorem exec_of_command (arm : exec i s = execute (isCommand n) true (onAxis run) s) (byte : r.args.getD 1 255 = n) :
    exec i s = .next ((onAxis run r s).state.answer r (onAxis run r s).result (onAxis run r s).content).settle :=
  arm.trans (execute_due head (by simp only [isCommand, hasCode, code, byte, decide_true, Bool.and_self])
    (by simp [State.inFlight, idle]))

theorem exec_axisCommand :
    exec .axisCommand s =
      .next ((runAxisCommand r s).state.answer r (runAxisCommand r s).result (runAxisCommand r s).content).settle :=
  execute_due (mine := hasCode 9) head (by simp [hasCode, code]) (by simp [State.inFlight, idle])

/-- A command of an axis under either of its names executes its rule (R104; log entry 24). -/
theorem exec_named_command {a : Fin Config.axisCount} (named : commandRule n = some run) (args : r.args = [codeByte a.val, n])
    (own : exec i s = execute (isCommand n) true (onAxis run) s ∨ i = .axisCommand) :
    exec i s = .next ((run s a).state.answer r (run s a).result (run s a).content).settle := by
  rw [← onAxis_of_axis (run := run) (s := s) args]
  rcases own with arm | rfl
  · exact exec_of_command head code idle arm (by rw [args]; rfl)
  · have rule : runAxisCommand r s = onAxis run r s := by simp only [runAxisCommand, args, named]
    rw [← rule]
    exact exec_axisCommand head code idle

end request

section answered

variable {s : State} {r : Request} {i : Instr} {A : Answer}
  (due : exec i s = .next (A.state.answer r A.result A.content).settle)

include due

theorem answers_of_refused {code : ReplyCode} (refused : A = refuse s code) : Answers i s r s code [] := by
  subst refused
  exact due

theorem answers_of_accepted {a : Fin Config.axisCount} {y : Axis} (accepted : A = acceptCommand s a y) :
    Answers i s r (s.setAxis a y) .ok [codeByte y.state.code, codeByte y.state.phaseCode, flagByte y.homed] := by
  subst accepted
  exact due

end answered

/-- Settles O48: each command executes its rule, whose cases are the lemmas above. -/
theorem axisCommandsTaken : Obligations.AxisCommandsTaken := by
  intro s r rest i head code idle
  refine ⟨fun a => ?_, fun b n large args command => ?_, fun b n more bytes args command => ?_, ?_⟩
  · intro x accepted
    have due {n : Byte} {run : State → Fin Config.axisCount → Answer} (named : commandRule n = some run)
        (args : r.args = [codeByte a.val, n])
        (own : exec i s = execute (isCommand n) true (onAxis run) s ∨ i = .axisCommand) :=
      exec_named_command head code idle named args own
    refine ⟨fun own args => ?_, fun own args => ?_, fun own args => ?_, fun own args => ?_, fun own args => ?_, fun own args => ?_⟩
    · have due := due (n := 0) (run := enableAxis) rfl args (own.imp_left (by rintro rfl; rfl))
      refine ⟨fun on => answers_of_refused due (enableAxis_of_on on),
        fun off noDrive => answers_of_refused due (enableAxis_of_no_drive off noDrive),
        fun off drive unknown => answers_of_refused due (enableAxis_of_unknown off drive unknown), ?_⟩
      intro actual off drive known p outside
      have position : enabledPosition x.travel.kind actual x.offset = p := enabledPosition_by_kind _ _ _
      refine ⟨fun out => ?_, fun _ mode => ?_, fun inside mode => ?_⟩
      · exact answers_of_refused due (enableAxis_of_outside off drive known (position.symm ▸ out))
      · exact position ▸ answers_of_accepted due (enableAxis_of_search off drive known mode)
      · exact position ▸ answers_of_accepted due (enableAxis_of_absolute off drive known mode (position.symm ▸ inside))
    · have due := due (n := 1) (run := disableAxis) rfl args (own.imp_left (by rintro rfl; rfl))
      exact ⟨fun barred => answers_of_refused due (disableAxis_of_not_allowed barred),
        fun allowed => answers_of_accepted due (disableAxis_of_allowed allowed)⟩
    · have due := due (n := 2) (run := homeAxis) rfl args (own.imp_left (by rintro rfl; rfl))
      exact ⟨fun showing => answers_of_refused due (homeAxis_of_showing showing),
        fun setup barred => answers_of_refused due (homeAxis_of_barred setup barred),
        fun setup mode ready => answers_of_accepted due (homeAxis_of_search setup mode ready)⟩
    · have due := due (n := 3) (run := trackAxis) rfl args (own.imp_left (by rintro rfl; rfl))
      exact ⟨fun tracking => answers_of_accepted due (trackAxis_of_tracking tracking),
        fun holding outside => answers_of_refused due (trackAxis_of_outside holding outside),
        fun holding inside => answers_of_accepted due (trackAxis_of_holding holding inside),
        fun tracking holding => answers_of_refused due (trackAxis_of_other tracking holding)⟩
    · have due := due (n := 4) (run := stopAxis) rfl args (own.imp_left (by rintro rfl; rfl))
      exact ⟨fun tracking => answers_of_accepted due (stopAxis_of_tracking tracking),
        fun seek => answers_of_accepted due (stopAxis_of_seek seek),
        fun tracking seek => answers_of_accepted due (stopAxis_of_other tracking seek)⟩
    · have due := due (n := 5) (run := clearFaultAxis) rfl args (own.imp_left (by rintro rfl; rfl))
      exact ⟨fun barred => answers_of_refused due (clearFaultAxis_of_barred barred),
        fun faulted cleared => answers_of_accepted due (clearFaultAxis_of_faulted faulted cleared)⟩
  · obtain ⟨-, run, -, arm⟩ := exec_command command
    exact answers_of_refused (exec_of_command head code idle (arm s) (by rw [args]; rfl)) (onAxis_of_no_axis args large)
  · obtain ⟨-, run, -, arm⟩ := exec_command command
    exact answers_of_refused (exec_of_command head code idle (arm s) (by rw [args]; rfl)) (onAxis_of_long args)
  · rintro rfl unnamed
    exact answers_of_refused (exec_axisCommand head code idle) (runAxisCommand_of_unnamed unnamed)

end Sys2Proof.Machine
end

section
/-! The items of a WRITE_AXIS: their bytes, what they name, and the values that would stand after the write (R100, R183). -/

namespace Sys2Proof.Machine

/-! ## The bytes -/

section bytes

theorem beInt_eight_range {bs : List Byte} (length : bs.length = 8) :
    -9223372036854775808 ≤ beInt bs ∧ beInt bs ≤ 9223372036854775807 := by
  have small := beNat_lt bs
  unfold beInt
  rw [length] at *
  split <;> omega

theorem slice_length_of_le {bs : List Byte} {i k : Nat} (long : i + k ≤ bs.length) : (slice bs i k).length = k := by
  rw [slice, List.length_take, List.length_drop]
  omega

theorem beNat_slice_one_lt (bs : List Byte) (i : Nat) : beNat (slice bs i 1) < 256 := by
  rw [beNat_slice_one]
  exact BitVec.isLt _

/-- What nine bytes hold is an item that fits them. -/
theorem decodeItem_fits {bs : List Byte} (length : bs.length = itemBytes) : ItemFits (decodeItem bs) :=
  ⟨beNat_slice_one_lt bs 0, beInt_eight_range (slice_length_of_le (Nat.le_of_eq length.symm))⟩

theorem encodeItem_decodeItem {bs : List Byte} (length : bs.length = itemBytes) :
    encodeItem (decodeItem bs).1 (decodeItem bs).2 = bs := by
  have value : intBytes 8 (beInt (slice bs 1 8)) = slice bs 1 8 :=
    intBytes_beInt (slice_length_of_le (Nat.le_of_eq length.symm))
  show codeByte (beNat (slice bs 0 1)) :: intBytes 8 (beInt (slice bs 1 8)) = bs
  rw [value]
  match bs, length with
  | b :: tail, length =>
    have rest : slice (b :: tail) 1 8 = tail := List.take_of_length_le (by simp [itemBytes] at length ⊢; omega)
    rw [rest, beNat_slice_one]
    exact congrArg (· :: tail) (codeByte_of_toNat b)

/-- Bytes of so many records are the items that they decode to. -/
theorem flatMap_encodeItem_chunks {count : Nat} {bs : List Byte} (length : bs.length = itemBytes * count) :
    (((chunks itemBytes count bs).map decodeItem).flatMap fun e => encodeItem e.1 e.2) = bs := by
  have same : ((chunks itemBytes count bs).map decodeItem).map (fun e => encodeItem e.1 e.2) = chunks itemBytes count bs := by
    rw [List.map_map]
    exact (List.map_congr_left fun chunk among => encodeItem_decodeItem (length_of_mem_chunks length among)).trans (List.map_id _)
  rw [List.flatMap_def, same, flatten_chunks length]

end bytes

/-! ## The request -/

section request

variable {s : State} {r : Request}

theorem flatMap_encodeItem_length (items : Items) :
    (items.flatMap fun e => encodeItem e.1 e.2).length = itemBytes * items.length := by
  induction items with
  | nil => rfl
  | cons e items ih =>
    rw [List.flatMap_cons, List.length_append, encodeItem_length, ih, List.length_cons, Nat.mul_succ, Nat.add_comm]

theorem runWriteAxis_of_items {a : Fin Config.axisCount} {items : Items} (few : items.length < 256)
    (fits : ∀ e ∈ items, ItemFits e) (args : r.args = itemArgs a items) : runWriteAxis r s = writeAxisItems s a items := by
  have axis : indexOf Config.axisCount (beNat (slice r.args 0 1)) = some a := by rw [args]; exact indexOf_axisByte a _
  have count : beNat (slice r.args 1 1) = items.length := by
    rw [args, beNat_slice_one]
    exact codeByte_toNat few
  have tail : r.args.drop 2 = items.flatMap fun e => encodeItem e.1 e.2 := by rw [args]; rfl
  have length : r.args.length = 2 + itemBytes * items.length := by
    rw [args, ← flatMap_encodeItem_length items, Nat.add_comm]
    rfl
  have decoded : (chunks itemBytes items.length (items.flatMap fun e => encodeItem e.1 e.2)).map decodeItem = items := by
    rw [chunks_flatMap (fun e : Nat × Int => encodeItem e.1 e.2) itemBytes (fun e => encodeItem_length e.1 e.2), List.map_map]
    exact (List.map_congr_left fun e mem => decodeItem_encodeItem (fits e mem)).trans (List.map_id items)
  unfold runWriteAxis
  simp only [axis, count, length, tail, decoded, ne_eq, not_true_eq_false, if_false]

/-- Arguments that are no list of items of an axis are refused. -/
theorem runWriteAxis_of_malformed
    (malformed : ∀ (a : Fin Config.axisCount) (items : List (Nat × Int)), items.length < 256 → (∀ e ∈ items, ItemFits e) →
      r.args ≠ itemArgs a items) : runWriteAxis r s = refuse s .range := by
  unfold runWriteAxis
  dsimp only
  split
  · rfl
  next a axis =>
  refine if_pos fun length => ?_
  have room : (r.args.drop 2).length = itemBytes * beNat (slice r.args 1 1) := by
    rw [List.length_drop, length, Nat.add_sub_cancel_left]
  have count : ((chunks itemBytes (beNat (slice r.args 1 1)) (r.args.drop 2)).map decodeItem).length = beNat (slice r.args 1 1) := by
    rw [List.length_map, chunks_length]
  refine malformed a ((chunks itemBytes (beNat (slice r.args 1 1)) (r.args.drop 2)).map decodeItem) ?_ ?_ ?_
  · rw [count]
    exact beNat_slice_one_lt _ _
  · intro e mem
    obtain ⟨chunk, among, rfl⟩ := List.mem_map.mp mem
    exact decodeItem_fits (length_of_mem_chunks room among)
  · rw [itemArgs, flatMap_encodeItem_chunks room, count, ← indexOf_eq_some_iff.mp axis]
    exact eq_codeBytes_of_length (by omega)

end request

/-! ## What the items name -/

section named

variable {items : Items} {id : Nat} {e : Nat × Int}

theorem itemsNamed_iff :
    itemsNamed items = true ↔
      (items.map (·.1)).Nodup ∧ ∀ e ∈ items, (1 ≤ e.1 ∧ e.1 ≤ 17) ∨ (32 ≤ e.1 ∧ e.1 ≤ 45) := by
  simp [itemsNamed, isTravelField, isTargetField, and_comm]

theorem carriesTravel_iff : carriesTravel items = true ↔ ∃ e ∈ items, 1 ≤ e.1 ∧ e.1 ≤ 17 := by
  simp [carriesTravel, isTravelField]

/-- An identifier that is carried once is carried with its value. -/
theorem carried_of_mem (nodup : (items.map (·.1)).Nodup) (mem : e ∈ items) : carried items e.1 = some e.2 := by
  have found : items.find? (fun f => decide (f.1 = e.1)) = some e := by
    induction items with
    | nil => cases mem
    | cons f items ih =>
      obtain ⟨fresh, rest⟩ := List.nodup_cons.mp nodup
      rcases List.mem_cons.mp mem with rfl | later
      · exact List.find?_cons_of_pos (decide_eq_true rfl)
      · have other : ¬f.1 = e.1 := fun same => fresh (List.mem_map.mpr ⟨e, later, same.symm⟩)
        rw [List.find?_cons_of_neg (by simpa using other)]
        exact ih rest later
  rw [carried, found]
  rfl

theorem carried_eq_none_iff : carried items id = none ↔ ¬∃ e ∈ items, e.1 = id := by
  rw [carried, Option.map_eq_none_iff, List.find?_eq_none]
  simp only [decide_eq_true_eq, not_exists, not_and]

theorem carried_isSome_iff : (carried items id).isSome = true ↔ ∃ e ∈ items, e.1 = id := by
  rw [Option.isSome_iff_ne_none, Ne, carried_eq_none_iff, Classical.not_not]

theorem standing_of_mem (x : Axis) (site : Site) (nodup : (items.map (·.1)).Nodup) (mem : e ∈ items) :
    standing x site items e.1 = e.2 := by
  rw [standing, carried_of_mem nodup mem, Option.getD_some]

theorem standing_of_unnamed (x : Axis) (site : Site) (unnamed : ¬∃ e ∈ items, e.1 = id) :
    standing x site items id = axisItem x site id := by
  rw [standing, carried_eq_none_iff.mpr unnamed, Option.getD_none]

end named

end Sys2Proof.Machine
end

section
/-! The tests of a WRITE_AXIS on the values that would stand after it (R60, R99 to R101, R140). -/

namespace Sys2Proof.Machine

/-! ## Codes -/

theorem axisKindOf_eq_some_iff {n : Int} {kind : AxisKind} : axisKindOf n = some kind ↔ n = kind.code := by
  constructor
  · intro found
    unfold axisKindOf at found
    split_ifs at found with continuous bounded wound
    all_goals
      obtain rfl := Option.some.inj found
      assumption
  · rintro rfl
    cases kind <;> rfl

theorem homeModeOf_eq_some_iff {n : Int} {mode : HomeMode} : homeModeOf n = some mode ↔ n = mode.code := by
  constructor
  · intro found
    unfold homeModeOf at found
    split_ifs at found with search absolute
    all_goals
      obtain rfl := Option.some.inj found
      assumption
  · rintro rfl
    cases mode <;> rfl

theorem sourceKindOf_eq_some_iff {n : Int} {kind : SourceKind} : sourceKindOf n = some kind ↔ n = kind.code := by
  constructor
  · intro found
    unfold sourceKindOf at found
    split_ifs at found
    all_goals
      obtain rfl := Option.some.inj found
      assumption
  · rintro rfl
    exact sourceKindOf_code kind

/-! ## Ranges by kind -/

/-- A value in the range that the kind with this code gives a position (R101). -/
def InKind (code y : Int) : Prop :=
  (code = 0 → 0 ≤ y ∧ y ≤ 2 ^ 32 - 1) ∧ (code ≠ 0 → -2 ^ 47 ≤ y ∧ y ≤ 2 ^ 47 - 1)

theorem inKind_iff (kind : AxisKind) (y : Int) : InKind kind.code y ↔ positionInRange kind y = true := by
  rw [positionInRange_iff]
  unfold InKind turn extHalf
  cases kind <;> simp [AxisKind.code]

/-- The held offset as it would stand at a change to the kind with this code (R100). -/
def Axis.reducedOffset (x : Axis) (code : Int) : Int :=
  if code = 0 ∧ x.travel.kind ≠ .continuous then x.offset % 2 ^ 32 else x.offset

theorem code_eq_zero_iff (kind : AxisKind) : (kind.code : Int) = 0 ↔ kind = .continuous := by
  cases kind <;> simp [AxisKind.code]

theorem offsetAfter_of_carried {x : Axis} {t : Travel} {items : Items} {o : Int} (carries : carried items 17 = some o) :
    offsetAfter x t items = o := by
  simp only [offsetAfter, carries]

theorem offsetAfter_of_not_carried {x : Axis} {t : Travel} {items : Items} (absent : carried items 17 = none) :
    offsetAfter x t items = x.reducedOffset t.kind.code := by
  simp only [offsetAfter, absent]
  exact if_congr (and_congr_left' (code_eq_zero_iff _).symm) rfl rfl

/-! ## The travel fields (R99) -/

section travel

/-- The travel fields with these values. -/
def travelWith (kind : AxisKind) (mode : HomeMode) (v : Nat → Int) : Travel :=
  { kind := kind, softLow := v 2, softHigh := v 3, wind := v 4, vmax := v 5, amax := v 6, stopDecel := v 7, homeMode := mode,
    homeVelocity := v 9, homePosition := v 10, homeSpan := v 11, node := (v 12).toNat, channel := (v 13).toNat, feLimit := v 14,
    missLimit := (v 15).toNat, switchMask := switchesOf (BitVec.ofInt 8 (v 16)) }

theorem travelOf_eq_some_iff {v : Nat → Int} {t : Travel} :
    travelOf v = some t ↔
      ∃ kind mode, v 1 = AxisKind.code kind ∧ v 8 = HomeMode.code mode ∧ travelAccepted kind v = true ∧
        t = travelWith kind mode v := by
  unfold travelOf
  constructor
  · intro formed
    split at formed
    · next kind mode known how =>
      split at formed
      · next accepted =>
        exact ⟨kind, mode, axisKindOf_eq_some_iff.mp known, homeModeOf_eq_some_iff.mp how, accepted, (Option.some.inj formed).symm⟩
      · cases formed
    · cases formed
  · rintro ⟨kind, mode, known, how, accepted, rfl⟩
    simp only [axisKindOf_eq_some_iff.mpr known, homeModeOf_eq_some_iff.mpr how, accepted, if_true]
    rfl

/-- The ranges of the travel fields, but for the offset and the channel's holder (R99). -/
def TravelFits (v : Nat → Int) : Prop :=
  (v 1 = 0 ∨ v 1 = 1 ∨ v 1 = 2) ∧ (-2 ^ 31 ≤ v 2 ∧ v 2 < v 3 ∧ v 3 ≤ 2 ^ 31 - 1) ∧
    (1 ≤ v 4 ∧ v 4 ≤ 1024) ∧ (1 ≤ v 5 ∧ v 5 ≤ 2 ^ 28) ∧ (1 ≤ v 6 ∧ v 6 ≤ 2 ^ 24) ∧
    (1 ≤ v 7 ∧ v 7 ≤ 2 ^ 24) ∧ (v 8 = 0 ∨ v 8 = 1) ∧ (v 9 ≠ 0 ∧ mag (v 9) ≤ v 5) ∧
    (v 1 = 0 → 0 ≤ v 10 ∧ v 10 ≤ 2 ^ 32 - 1) ∧ (v 1 = 1 → v 2 ≤ v 10 ∧ v 10 ≤ v 3) ∧
    (v 1 = 2 → -(v 4 * 2 ^ 32) ≤ v 10 ∧ v 10 ≤ v 4 * 2 ^ 32) ∧ (1 ≤ v 11 ∧ v 11 ≤ 2 ^ 40) ∧
    (0 ≤ v 12 ∧ v 12 ≤ 30) ∧ (0 ≤ v 13 ∧ v 13 ≤ 3) ∧ (1 ≤ v 14 ∧ v 14 ≤ 2 ^ 31) ∧
    (1 ≤ v 15 ∧ v 15 ≤ 15) ∧ (0 ≤ v 16 ∧ v 16 ≤ 7)

theorem exists_axisKind_iff {n : Int} : (∃ kind : AxisKind, n = kind.code) ↔ n = 0 ∨ n = 1 ∨ n = 2 := by
  constructor
  · rintro ⟨kind, rfl⟩
    cases kind <;> simp [AxisKind.code]
  · rintro (rfl | rfl | rfl)
    exacts [⟨.continuous, rfl⟩, ⟨.bounded, rfl⟩, ⟨.wound, rfl⟩]

theorem exists_homeMode_iff {n : Int} : (∃ mode : HomeMode, n = mode.code) ↔ n = 0 ∨ n = 1 := by
  constructor
  · rintro ⟨mode, rfl⟩
    cases mode <;> simp [HomeMode.code]
  · rintro (rfl | rfl)
    exacts [⟨.search, rfl⟩, ⟨.absolute, rfl⟩]

theorem homePositionAccepted_iff {kind : AxisKind} {n lo hi wind p : Int} (code : n = kind.code) :
    homePositionAccepted kind lo hi wind p = true ↔
      (n = 0 → 0 ≤ p ∧ p ≤ 2 ^ 32 - 1) ∧ (n = 1 → lo ≤ p ∧ p ≤ hi) ∧ (n = 2 → -(wind * 2 ^ 32) ≤ p ∧ p ≤ wind * 2 ^ 32) := by
  subst code
  unfold homePositionAccepted turn
  cases kind <;> simp [AxisKind.code, within_iff]

theorem travelAccepted_iff {kind : AxisKind} {v : Nat → Int} (code : v 1 = kind.code) (mode : v 8 = 0 ∨ v 8 = 1) :
    travelAccepted kind v = true ↔ TravelFits v := by
  have known : v 1 = 0 ∨ v 1 = 1 ∨ v 1 = 2 := exists_axisKind_iff.mp ⟨kind, code⟩
  unfold travelAccepted TravelFits
  simp only [Bool.and_eq_true, within_iff, decide_eq_true_eq, homePositionAccepted_iff code, halfTurn]
  generalize v 1 = kindCode at *
  generalize mag (v 9) = speed
  omega

theorem newTravel_eq_some_iff {s : State} {a : Fin Config.axisCount} {items : Items} {t : Travel} :
    newTravel s a items = some t ↔
      travelOf (standing (s.axis a) s.site items) = some t ∧ channelTaken s a t = false ∧
        ¬((carried items 17).isSome = true ∧ t.homeMode = .search) ∧
        positionInRange t.kind (offsetAfter (s.axis a) t items) = true := by
  unfold newTravel
  cases formed : travelOf (standing (s.axis a) s.site items) with
  | none => simp
  | some u =>
    dsimp only
    constructor
    · intro passed
      split at passed
      · cases passed
      next tests =>
      obtain rfl := Option.some.inj passed
      simp only [Bool.or_eq_true, Bool.and_eq_true, Bool.not_eq_true', decide_eq_true_eq, not_or, Bool.not_eq_true,
        Bool.not_eq_false] at tests
      obtain ⟨⟨free, searching⟩, inRange⟩ := tests
      exact ⟨rfl, free, searching, inRange⟩
    · rintro ⟨same, free, searching, inRange⟩
      obtain rfl := Option.some.inj same
      refine if_neg ?_
      simp only [Bool.or_eq_true, Bool.and_eq_true, Bool.not_eq_true', decide_eq_true_eq, not_or, Bool.not_eq_true,
        Bool.not_eq_false]
      exact ⟨⟨free, searching⟩, inRange⟩

/-- No other axis holds the channel that would stand (R100 step 4). -/
theorem channelTaken_travelWith (s : State) (a : Fin Config.axisCount) {kind : AxisKind} {mode : HomeMode} {v : Nat → Int}
    (fits : TravelFits v) :
    channelTaken s a (travelWith kind mode v) = false ↔
      (v 12 ≠ 0 → ∀ b, b ≠ a → ¬(((s.axis b).travel.node : Int) = v 12 ∧ ((s.axis b).travel.channel : Int) = v 13)) := by
  obtain ⟨-, -, -, -, -, -, -, -, -, -, -, -, ⟨node, -⟩, ⟨channel, -⟩, -⟩ := fits
  rw [channelTaken_eq_false_iff]
  show ((v 12).toNat ≠ 0 → ∀ b, b ≠ a → ¬((s.axis b).travel.node = (v 12).toNat ∧ (s.axis b).travel.channel = (v 13).toNat)) ↔ _
  refine imp_congr (by omega) (forall_congr' fun b => imp_congr_right fun _ => not_congr ?_)
  omega

/-- The offset that would stand is in the range of the kind, and one is carried only to an ABSOLUTE axis (R99, R100). -/
theorem offsetAfter_accepted_iff (x : Axis) (site : Site) (items : Items) {t : Travel}
    (kind : standing x site items 1 = t.kind.code) (mode : standing x site items 8 = t.homeMode.code) :
    (¬((carried items 17).isSome = true ∧ t.homeMode = .search) ∧ positionInRange t.kind (offsetAfter x t items) = true) ↔
      ((∃ e ∈ items, e.1 = 17) → standing x site items 8 = 1 ∧ InKind (standing x site items 1) (standing x site items 17)) ∧
        (¬(∃ e ∈ items, e.1 = 17) → InKind (standing x site items 1) (x.reducedOffset (standing x site items 1))) := by
  have absolute : ¬t.homeMode = .search ↔ standing x site items 8 = 1 := by
    rw [mode]
    cases t.homeMode <;> simp [HomeMode.code]
  rw [← absolute, kind, inKind_iff, inKind_iff, ← carried_isSome_iff]
  cases carries : carried items 17 with
  | none => simp [offsetAfter_of_not_carried carries]
  | some o => simp [offsetAfter_of_carried carries, standing, carries]

/-- The tests of the travel fields, on the values that would stand (R99, R100 step 4). -/
theorem exists_newTravel_iff {s : State} {a : Fin Config.axisCount} {items : Items} :
    let v := standing (s.axis a) s.site items
    (∃ t, newTravel s a items = some t) ↔
      TravelFits v ∧
        (v 12 ≠ 0 → ∀ b, b ≠ a → ¬(((s.axis b).travel.node : Int) = v 12 ∧ ((s.axis b).travel.channel : Int) = v 13)) ∧
        ((∃ e ∈ items, e.1 = 17) → v 8 = 1 ∧ InKind (v 1) (v 17)) ∧
        (¬(∃ e ∈ items, e.1 = 17) → InKind (v 1) ((s.axis a).reducedOffset (v 1))) := by
  intro v
  constructor
  · rintro ⟨t, formed⟩
    obtain ⟨formed, free, offset⟩ := newTravel_eq_some_iff.mp formed
    obtain ⟨kind, mode, code, how, accepted, rfl⟩ := travelOf_eq_some_iff.mp formed
    have fits := (travelAccepted_iff code (exists_homeMode_iff.mp ⟨mode, how⟩)).mp accepted
    exact ⟨fits, (channelTaken_travelWith s a fits).mp free, (offsetAfter_accepted_iff _ _ _ code how).mp offset⟩
  · rintro ⟨fits, free, offset⟩
    have ranges := fits
    obtain ⟨known, -, -, -, -, -, how, -⟩ := ranges
    obtain ⟨kind, code⟩ := exists_axisKind_iff.mpr known
    obtain ⟨mode, how'⟩ := exists_homeMode_iff.mpr how
    refine ⟨travelWith kind mode v, newTravel_eq_some_iff.mpr ⟨?_, ?_, ?_⟩⟩
    · exact travelOf_eq_some_iff.mpr ⟨kind, mode, code, how', (travelAccepted_iff code how).mpr fits, rfl⟩
    · exact (channelTaken_travelWith s a fits).mpr free
    · exact (offsetAfter_accepted_iff _ _ _ (t := travelWith kind mode v) code how').mpr offset

/-- The fields of an accepted travel record are the values that would stand. -/
theorem newTravel_formed {s : State} {a : Fin Config.axisCount} {items : Items} {t : Travel}
    (formed : newTravel s a items = some t) :
    ∃ kind mode, standing (s.axis a) s.site items 1 = AxisKind.code kind ∧
      standing (s.axis a) s.site items 8 = HomeMode.code mode ∧ TravelFits (standing (s.axis a) s.site items) ∧
      t = travelWith kind mode (standing (s.axis a) s.site items) := by
  obtain ⟨formed, -⟩ := newTravel_eq_some_iff.mp formed
  obtain ⟨kind, mode, code, how, accepted, rfl⟩ := travelOf_eq_some_iff.mp formed
  exact ⟨kind, mode, code, how, (travelAccepted_iff code (exists_homeMode_iff.mp ⟨mode, how⟩)).mp accepted, rfl⟩

end travel

/-! ## The source and the target fields (R60, R140) -/

section target

variable {x : Axis} {a : Fin Config.axisCount} {site : Site} {items : Items}

theorem newSource_of_unnamed (kind : ¬∃ e ∈ items, e.1 = 32) (index : ¬∃ e ∈ items, e.1 = 33) :
    newSource x a site items = some none := by
  simp [newSource, carried_eq_none_iff.mpr kind, carried_eq_none_iff.mpr index]

theorem newSource_of_named (named : (∃ e ∈ items, e.1 = 32) ∨ ∃ e ∈ items, e.1 = 33) {source : Option (SourceKind × Nat)} :
    newSource x a site items = some source ↔
      ∃ k, standing x site items 32 = SourceKind.code k ∧ sourceAccepted a.val k (standing x site items 33) = true ∧
        source = some (k, sourceIndex k (standing x site items 33)) := by
  have carries : ¬((carried items 32).isNone && (carried items 33).isNone) = true := by
    simp only [Bool.and_eq_true, Option.isNone_iff_eq_none, carried_eq_none_iff, not_and_or, Classical.not_not]
    exact named
  unfold newSource
  rw [if_neg carries]
  constructor
  · intro formed
    split at formed
    · cases formed
    next k known =>
    split at formed
    · next accepted => exact ⟨k, sourceKindOf_eq_some_iff.mp known, accepted, (Option.some.inj formed).symm⟩
    · cases formed
  · rintro ⟨k, known, accepted, rfl⟩
    simp only [sourceKindOf_eq_some_iff.mpr known, accepted, if_true]

theorem exists_sourceAccepted_iff {axis : Nat} {n index : Int} :
    (∃ k : SourceKind, n = k.code ∧ sourceAccepted axis k index = true) ↔
      (0 ≤ n ∧ n ≤ 5) ∧ (n = 0 ∨ n = 1 → 0 ≤ index ∧ index ≤ 11) ∧ (n = 4 → 0 ≤ index ∧ index < axis) := by
  constructor
  · rintro ⟨k, rfl, accepted⟩
    cases k with
    | linear | siteLatitude | fixed => simp [SourceKind.code]
    | bodyLongitude | bodyLatitude | follow => simpa [SourceKind.code, sourceAccepted, within_iff] using accepted
  · rintro ⟨⟨lower, upper⟩, body, leader⟩
    have known : n = 0 ∨ n = 1 ∨ n = 2 ∨ n = 3 ∨ n = 4 ∨ n = 5 := by omega
    rcases known with rfl | rfl | rfl | rfl | rfl | rfl
    · exact ⟨.bodyLongitude, rfl, within_iff.mpr (body (.inl rfl))⟩
    · exact ⟨.bodyLatitude, rfl, within_iff.mpr (body (.inr rfl))⟩
    · exact ⟨.linear, rfl, rfl⟩
    · exact ⟨.siteLatitude, rfl, rfl⟩
    · exact ⟨.follow, rfl, by simpa [sourceAccepted] using leader rfl⟩
    · exact ⟨.fixed, rfl, rfl⟩

/-- The test of the source, on the pair that would stand (R60). -/
theorem exists_newSource_iff :
    (∃ source, newSource x a site items = some source) ↔
      ((∃ e ∈ items, e.1 = 32) ∨ (∃ e ∈ items, e.1 = 33) →
        (0 ≤ standing x site items 32 ∧ standing x site items 32 ≤ 5) ∧
          (standing x site items 32 = 0 ∨ standing x site items 32 = 1 →
            0 ≤ standing x site items 33 ∧ standing x site items 33 ≤ 11) ∧
          (standing x site items 32 = 4 → 0 ≤ standing x site items 33 ∧ standing x site items 33 < a.val)) := by
  by_cases named : (∃ e ∈ items, e.1 = 32) ∨ ∃ e ∈ items, e.1 = 33
  · rw [← exists_sourceAccepted_iff]
    refine Iff.trans ?_ (forall_prop_of_true named).symm
    constructor
    · rintro ⟨source, formed⟩
      obtain ⟨k, known, accepted, -⟩ := (newSource_of_named named).mp formed
      exact ⟨k, known, accepted⟩
    · rintro ⟨k, known, accepted⟩
      exact ⟨_, (newSource_of_named named).mpr ⟨k, known, accepted, rfl⟩⟩
  · obtain ⟨kind, index⟩ := not_or.mp named
    exact iff_of_true ⟨none, newSource_of_unnamed kind index⟩ fun either => absurd either named

/-- The test of one carried target field (R60, R140). -/
theorem targetItemAccepted_iff {kind : AxisKind} {n : Int} (code : n = kind.code) (e : Nat × Int) :
    targetItemAccepted kind e.1 e.2 = true ↔
      (e.1 = 34 ∨ e.1 = 38 → -2 ^ 31 ≤ e.2 ∧ e.2 ≤ 2 ^ 31 - 1) ∧
        (e.1 = 35 → (n = 1 → -2 ^ 31 ≤ e.2 ∧ e.2 ≤ 2 ^ 31 - 1) ∧ (n ≠ 1 → 0 ≤ e.2 ∧ e.2 ≤ 2 ^ 32 - 1)) ∧
        (e.1 = 36 → 0 ≤ e.2 ∧ e.2 ≤ 2 ^ 32 - 1) ∧ (e.1 = 37 → -16 ≤ e.2 ∧ e.2 ≤ 16) ∧
        (e.1 = 39 ∨ e.1 = 41 ∨ e.1 = 44 → 0 ≤ e.2 ∧ e.2 ≤ 1) ∧ (e.1 = 40 ∨ e.1 = 43 → InKind n e.2) ∧
        (e.1 = 42 ∨ e.1 = 45 → e.2 = -2 ^ 63 ∨ InKind n e.2) := by
  obtain ⟨id, y⟩ := e
  subst code
  simp only [inKind_iff]
  unfold targetItemAccepted
  split
  case h_3 =>
    cases kind <;> simp [AxisKind.code, within_iff, halfTurn, turn]
  case h_11 | h_12 =>
    rw [Bool.or_eq_true, decide_eq_true_iff]
    simp [absentValue]
  all_goals simp_all [within_iff, halfTurn, turn]

end target

end Sys2Proof.Machine
end

section
/-! WRITE_AXIS: its refusals in their order, and an accepted write, read back item by item (R60, R99, R100, R140, R183). -/

namespace Sys2Proof.Machine

/-! ## The steps of a write (R100) -/

section steps

variable {s : State} {a : Fin Config.axisCount} {items : Items}

/-- The travel fields that would stand: those held where none is carried (R100; log entry 16). -/
def standingTravel (s : State) (a : Fin Config.axisCount) (items : Items) : Option Travel :=
  if carriesTravel items then newTravel s a items else some (s.axis a).travel

theorem writeAxisItems_of_unnamed (unnamed : ¬itemsNamed items = true) : writeAxisItems s a items = refuse s .range :=
  if_pos (by simpa using unnamed)

theorem writeAxisItems_of_showing (named : itemsNamed items = true) (travels : carriesTravel items = true)
    (showing : s.mgmt.mode = .showing) : writeAxisItems s a items = refuse s .mode := by
  simp [writeAxisItems, named, travels, showing]

theorem writeAxisItems_of_on (named : itemsNamed items = true) (travels : carriesTravel items = true)
    (setup : s.mgmt.mode = .setup) (on : (s.axis a).state ≠ .off) : writeAxisItems s a items = refuse s .state := by
  simp [writeAxisItems, named, travels, setup, on]

section ready

variable (named : itemsNamed items = true)
  (ready : carriesTravel items = true → s.mgmt.mode = .setup ∧ (s.axis a).state = .off)

include ready in
theorem tests_of_ready :
    (carriesTravel items && decide (s.mgmt.mode = .showing)) = false ∧
      (carriesTravel items && decide ((s.axis a).state ≠ .off)) = false := by
  cases travels : carriesTravel items with
  | false => exact ⟨rfl, rfl⟩
  | true =>
    obtain ⟨setup, off⟩ := ready travels
    simp [setup, off]

include named ready

theorem writeAxisItems_of_passed {t : Travel} {source : Option (SourceKind × Nat)} (travel : standingTravel s a items = some t)
    (formed : newSource (s.axis a) a s.site items = some source)
    (accepted : ∀ e ∈ items, targetItemAccepted t.kind e.1 e.2 = true) :
    writeAxisItems s a items = accept (s.setAxis a (writtenAxis (s.axis a) t items source)) [] := by
  obtain ⟨mode, state⟩ := tests_of_ready ready
  unfold standingTravel at travel
  simp only [writeAxisItems, named, mode, state, travel, formed, List.all_eq_true.mpr accepted, Bool.not_true, Bool.false_eq_true,
    if_false, if_true]

theorem writeAxisItems_of_failed
    (failed : ∀ t source, standingTravel s a items = some t → newSource (s.axis a) a s.site items = some source →
      ¬∀ e ∈ items, targetItemAccepted t.kind e.1 e.2 = true) : writeAxisItems s a items = refuse s .range := by
  obtain ⟨mode, state⟩ := tests_of_ready ready
  unfold standingTravel at failed
  simp only [writeAxisItems, named, mode, state, Bool.not_true, Bool.false_eq_true, if_false]
  split
  · next t source travel formed => exact if_neg fun accepted => failed t source travel formed (List.all_eq_true.mp accepted)
  · rfl

end ready

end steps

/-! ## One carried target field written and read back (R59, R140, R183) -/

section target

/-- The value of a target field other than the source, as READ_AXIS returns it. -/
def Target.item (kind : AxisKind) (t : Target) (id : Nat) : Int :=
  match id with
  | 34 => t.scale
  | 35 => readOffset kind t.offset
  | 36 => t.phase
  | 37 => t.turns
  | 38 => t.fraction
  | 39 => flagValue t.siteFlag
  | 40 => t.watchA.value
  | 41 => flagValue t.watchA.enabled
  | 42 => t.watchA.next.getD absentValue
  | 43 => t.watchB.value
  | 44 => flagValue t.watchB.enabled
  | 45 => t.watchB.next.getD absentValue
  | _ => 0

theorem axisItem_of_target (x : Axis) (site : Site) {id : Nat} (lo : 34 ≤ id) (hi : id ≤ 45) :
    axisItem x site id = x.target.item x.travel.kind id := by
  interval_cases id <;> rfl

variable {kind : AxisKind} {t : Target} {items : Items} {id : Nat}

theorem item_withSource (source : Option (SourceKind × Nat)) : (t.withSource source).item kind id = t.item kind id := by
  cases source with
  | none => rfl
  | some p =>
    unfold Target.item
    split <;> rfl

/-- An item writes its own field and no other. -/
theorem item_applyItem_of_ne {e : Nat × Int} (other : e.1 ≠ id) : (applyItem t e).item kind id = t.item kind id := by
  obtain ⟨n, y⟩ := e
  unfold applyItem
  dsimp only at other ⊢
  split
  all_goals
    unfold Target.item
    split
  all_goals first | rfl | exact absurd rfl other

theorem offset_applyItem_of_ne {e : Nat × Int} (other : e.1 ≠ 35) : (applyItem t e).offset = t.offset := by
  obtain ⟨n, y⟩ := e
  unfold applyItem
  dsimp only at other ⊢
  split
  all_goals first | rfl | exact absurd rfl other

theorem flagValue_decide {y : Int} (flag : 0 ≤ y ∧ y ≤ 1) : flagValue (decide (y = 1)) = y := by
  have cases : y = 0 ∨ y = 1 := by omega
  rcases cases with rfl | rfl <;> rfl

theorem nextOf_getD (y : Int) : (nextOf y).getD absentValue = y := by
  unfold nextOf
  split
  · next absent => exact absent.symm
  · rfl

/-- An offset in the range of the kind reads back. -/
theorem readOffset_ofInt {y : Int} (accepted : targetItemAccepted kind 35 y = true) : readOffset kind (BitVec.ofInt 32 y) = y := by
  cases kind with
  | bounded =>
    have range := within_iff.mp accepted
    unfold halfTurn at range
    show (BitVec.ofInt 32 y).toInt = y
    rw [BitVec.toInt_ofInt]
    exact Int.bmod_eq_of_le (by omega) (by omega)
  | continuous | wound =>
    have range := within_iff.mp accepted
    unfold turn at range
    show ((BitVec.ofInt 32 y).toNat : Int) = y
    rw [BitVec.toNat_ofInt]
    omega

theorem item_applyItem_same {e : Nat × Int} (lo : 34 ≤ e.1) (hi : e.1 ≤ 45) (accepted : targetItemAccepted kind e.1 e.2 = true) :
    (applyItem t e).item kind e.1 = e.2 := by
  obtain ⟨n, y⟩ := e
  dsimp only at lo hi accepted ⊢
  interval_cases n
  exacts [rfl, readOffset_ofInt accepted, rfl, rfl, rfl, flagValue_decide (within_iff.mp accepted), rfl,
    flagValue_decide (within_iff.mp accepted), nextOf_getD y, rfl, flagValue_decide (within_iff.mp accepted), nextOf_getD y]

/-- What no item of a list writes stands. -/
theorem foldl_applyItem_of_unnamed {α : Type} (read : Target → α)
    (other : ∀ (t : Target) (e : Nat × Int), e.1 ≠ id → read (applyItem t e) = read t) (unnamed : ¬∃ e ∈ items, e.1 = id) :
    read (items.foldl applyItem t) = read t :=
  List.foldlRecOn (motive := fun u => read u = read t) _ _ rfl fun u same e mem =>
    (other u e fun names => unnamed ⟨e, mem, names⟩).trans same

/-- A list that carries an item once leaves its value. -/
theorem item_foldl_applyItem_of_mem {e : Nat × Int} (nodup : (items.map (·.1)).Nodup) (mem : e ∈ items) (lo : 34 ≤ e.1)
    (hi : e.1 ≤ 45) (accepted : targetItemAccepted kind e.1 e.2 = true) : (items.foldl applyItem t).item kind e.1 = e.2 := by
  induction items generalizing t with
  | nil => cases mem
  | cons f items ih =>
    obtain ⟨fresh, rest⟩ := List.nodup_cons.mp nodup
    rw [List.foldl_cons]
    rcases List.mem_cons.mp mem with rfl | later
    · rw [foldl_applyItem_of_unnamed (fun t : Target => t.item kind e.1) (fun _ _ other => item_applyItem_of_ne other)
        fun ⟨g, among, same⟩ => fresh (List.mem_map.mpr ⟨g, among, same⟩)]
      exact item_applyItem_same lo hi accepted
    · exact ih rest later

end target

end Sys2Proof.Machine
end

section
/-! WRITE_AXIS: the written axis read back, and the obligation (R60, R99 to R101, R140, R183). -/

namespace Sys2Proof.Machine

/-! ## Travel fields read back -/

section travel

/-- The travel items read the travel fields alone. -/
theorem axisItem_of_same_travel {x y : Axis} (site : Site) {id : Nat} (same : y.travel = x.travel) (lo : 1 ≤ id) (hi : id ≤ 16) :
    axisItem y site id = axisItem x site id := by
  have reads : axisItem y site id = axisItem { x with travel := y.travel } site id := by interval_cases id <;> rfl
  rw [reads, same]

theorem bits_switchesOf {n : Int} (lo : 0 ≤ n) (hi : n ≤ 7) : ((switchesOf (BitVec.ofInt 8 n)).bits : Int) = n := by
  interval_cases n <;> rfl

/-- The fields of an accepted travel record read back as the values that it was formed from. -/
theorem axisItem_of_travelWith {y : Axis} (site : Site) {kind : AxisKind} {mode : HomeMode} {v : Nat → Int}
    (travel : y.travel = travelWith kind mode v) (code : v 1 = kind.code) (how : v 8 = mode.code) (fits : TravelFits v)
    {id : Nat} (lo : 1 ≤ id) (hi : id ≤ 16) : axisItem y site id = v id := by
  obtain ⟨-, -, -, -, -, -, -, -, -, -, -, -, ⟨node, -⟩, ⟨channel, -⟩, -, ⟨misses, -⟩, ⟨mask, maskHigh⟩⟩ := fits
  rw [axisItem_of_same_travel (x := { y with travel := travelWith kind mode v }) site travel lo hi]
  interval_cases id
  exacts [code.symm, rfl, rfl, rfl, rfl, rfl, rfl, how.symm, rfl, rfl, rfl, Int.toNat_of_nonneg node, Int.toNat_of_nonneg channel,
    rfl, Int.toNat_of_nonneg (by omega), bits_switchesOf mask maskHigh]

end travel

/-! ## An accepted write -/

/-- What a write has passed: the names, the ranges of the travel fields and the source, and those of the target fields. -/
structure WritePassed (s : State) (a : Fin Config.axisCount) (items : Items) (t : Travel) (source : Option (SourceKind × Nat)) :
    Prop where
  nodup : (items.map (·.1)).Nodup
  travel : standingTravel s a items = some t
  source : newSource (s.axis a) a s.site items = some source
  accepted : ∀ e ∈ items, targetItemAccepted t.kind e.1 e.2 = true

section written

variable {s : State} {a : Fin Config.axisCount} {items : Items} {t : Travel} {source : Option (SourceKind × Nat)} {id : Nat}

theorem standingTravel_of_none (bare : ¬∃ e ∈ items, 1 ≤ e.1 ∧ e.1 ≤ 17) : standingTravel s a items = some (s.axis a).travel :=
  if_neg (mt carriesTravel_iff.mp bare)

theorem standingTravel_of_some (travels : ∃ e ∈ items, 1 ≤ e.1 ∧ e.1 ≤ 17) : standingTravel s a items = newTravel s a items :=
  if_pos (carriesTravel_iff.mpr travels)

theorem not_named_of_bare (bare : ¬∃ e ∈ items, 1 ≤ e.1 ∧ e.1 ≤ 17) (lo : 1 ≤ id) (hi : id ≤ 17) : ¬∃ e ∈ items, e.1 = id :=
  fun ⟨e, mem, same⟩ => bare ⟨e, mem, by omega, by omega⟩

/-- The travel fields that would stand, read by their identifiers. -/
theorem axisItem_of_standingTravel {y : Axis} (standing' : standingTravel s a items = some t) (travel : y.travel = t) (lo : 1 ≤ id)
    (hi : id ≤ 16) : axisItem y s.site id = standing (s.axis a) s.site items id := by
  by_cases travels : ∃ e ∈ items, 1 ≤ e.1 ∧ e.1 ≤ 17
  · obtain ⟨kind, mode, code, how, fits, rfl⟩ := newTravel_formed ((standingTravel_of_some travels).symm.trans standing')
    exact axisItem_of_travelWith s.site travel code how fits lo hi
  · obtain rfl := Option.some.inj ((standingTravel_of_none travels).symm.trans standing')
    rw [standing_of_unnamed _ _ (not_named_of_bare travels lo (by omega))]
    exact axisItem_of_same_travel s.site travel lo hi

/-- The kind that would stand. -/
theorem standing_kind (standing' : standingTravel s a items = some t) : standing (s.axis a) s.site items 1 = t.kind.code :=
  (axisItem_of_standingTravel (y := { s.axis a with travel := t }) standing' rfl le_rfl (by decide)).symm

theorem writtenAxis_item (x : Axis) (t : Travel) (items : Items) (source : Option (SourceKind × Nat)) (site : Site) (lo : 34 ≤ id)
    (hi : id ≤ 45) : axisItem (writtenAxis x t items source) site id = (items.foldl applyItem x.target).item t.kind id := by
  rw [axisItem_of_target _ site lo hi]
  exact item_withSource source

theorem writtenAxis_source_of_unnamed (x : Axis) (t : Travel) (items : Items) :
    (writtenAxis x t items none).target.source = x.target.source ∧ (writtenAxis x t items none).target.index = x.target.index :=
  foldl_applyItem_source x.target items

/-- The source of an accepted write is the one of the pair that would stand (R60). -/
theorem writtenAxis_source (passed : WritePassed s a items t source) :
    axisItem (writtenAxis (s.axis a) t items source) s.site 32 = standing (s.axis a) s.site items 32 := by
  by_cases named : (∃ e ∈ items, e.1 = 32) ∨ ∃ e ∈ items, e.1 = 33
  · obtain ⟨k, known, -, rfl⟩ := (newSource_of_named named).mp passed.source
    exact known.symm
  · obtain ⟨kind, index⟩ := not_or.mp named
    obtain rfl := Option.some.inj ((newSource_of_unnamed kind index).symm.trans passed.source)
    rw [standing_of_unnamed _ _ kind]
    exact congrArg (fun k : SourceKind => (k.code : Int)) (writtenAxis_source_of_unnamed (s.axis a) t items).1

/-- The index is recorded for the kinds that use one, and 0 for the others (R60; log entry 17). -/
theorem sourceIndex_of_accepted {axis : Nat} {k : SourceKind} {index : Int} (accepted : sourceAccepted axis k index = true) :
    (sourceIndex k index : Int) = if (k.code : Int) = 0 ∨ (k.code : Int) = 1 ∨ (k.code : Int) = 4 then index else 0 := by
  cases k with
  | linear | siteLatitude | fixed => rfl
  | bodyLongitude | bodyLatitude =>
    obtain ⟨positive, -⟩ := within_iff.mp accepted
    exact Int.toNat_of_nonneg positive
  | follow =>
    simp only [sourceAccepted, Bool.and_eq_true, decide_eq_true_eq] at accepted
    exact Int.toNat_of_nonneg accepted.1

theorem writtenAxis_index_of_named (passed : WritePassed s a items t source)
    (named : (∃ e ∈ items, e.1 = 32) ∨ ∃ e ∈ items, e.1 = 33) :
    let v := standing (s.axis a) s.site items
    ((writtenAxis (s.axis a) t items source).target.index : Int) = if v 32 = 0 ∨ v 32 = 1 ∨ v 32 = 4 then v 33 else 0 := by
  obtain ⟨k, known, accepted, rfl⟩ := (newSource_of_named named).mp passed.source
  dsimp only
  rw [known]
  exact sourceIndex_of_accepted accepted

theorem writtenAxis_index_of_unnamed (passed : WritePassed s a items t source) (kind : ¬∃ e ∈ items, e.1 = 32)
    (index : ¬∃ e ∈ items, e.1 = 33) :
    (writtenAxis (s.axis a) t items source).target.index = (s.axis a).target.index := by
  obtain rfl := Option.some.inj ((newSource_of_unnamed kind index).symm.trans passed.source)
  exact (writtenAxis_source_of_unnamed (s.axis a) t items).2

/-- Every carried item reads back, but for the index of a source that uses none (R183). -/
theorem writtenAxis_reads_back (passed : WritePassed s a items t source)
    (named : ∀ e ∈ items, (1 ≤ e.1 ∧ e.1 ≤ 17) ∨ (32 ≤ e.1 ∧ e.1 ≤ 45)) {e : Nat × Int} (mem : e ∈ items) (index : e.1 ≠ 33) :
    axisItem (writtenAxis (s.axis a) t items source) s.site e.1 = e.2 := by
  have value := standing_of_mem (s.axis a) s.site passed.nodup mem
  have field := named e mem
  have parts : (1 ≤ e.1 ∧ e.1 ≤ 16) ∨ e.1 = 17 ∨ e.1 = 32 ∨ (34 ≤ e.1 ∧ e.1 ≤ 45) := by omega
  rcases parts with ⟨lo, hi⟩ | offset | kind | ⟨lo, hi⟩
  · exact (axisItem_of_standingTravel passed.travel rfl lo hi).trans value
  · have carries := carried_of_mem passed.nodup mem
    rw [offset] at carries ⊢
    exact offsetAfter_of_carried carries
  · rw [kind] at value ⊢
    exact (writtenAxis_source passed).trans value
  · rw [writtenAxis_item _ _ _ _ _ lo hi]
    exact item_foldl_applyItem_of_mem passed.nodup mem lo hi (passed.accepted e mem)

theorem writtenAxis_targetOffset_of_unnamed (passed : WritePassed s a items t source) (unnamed : ¬∃ e ∈ items, e.1 = 35) :
    (writtenAxis (s.axis a) t items source).target.offset = (s.axis a).target.offset := by
  have kept : (items.foldl applyItem (s.axis a).target).offset = (s.axis a).target.offset :=
    foldl_applyItem_of_unnamed Target.offset (fun _ _ other => offset_applyItem_of_ne other) unnamed
  rw [← kept]
  cases source <;> rfl

theorem rechannel_reads (d : Drive) (before after : Travel) :
    (d.rechannel before after).answerPending = d.answerPending ∧ (d.rechannel before after).missCount = d.missCount ∧
      (d.rechannel before after).followError = d.followError ∧ (d.rechannel before after).reported = d.reported := by
  unfold Drive.rechannel
  split <;> exact ⟨rfl, rfl, rfl, rfl⟩

/-- A write leaves every item beyond the travel and target fields, but for the suppression and the drive's own (R60, R127). -/
theorem writtenAxis_motion (x : Axis) (site : Site) (beyond : ¬(1 ≤ id ∧ id ≤ 17)) (notTarget : ¬(32 ≤ id ∧ id ≤ 45))
    (suppress : id ≠ 74) (actual : id ≠ 79) (fault : id ≠ 80) (live : id ≠ 84) :
    axisItem (writtenAxis x t items source) site id = axisItem x site id := by
  obtain ⟨pending, misses, following, reported⟩ := rechannel_reads x.drive x.travel t
  by_cases small : id ≤ 63
  · have none : ∀ y : Axis, axisItem y site id = 0 := by
      intro y
      unfold axisItem
      split
      all_goals omega
    rw [none, none]
  · unfold axisItem writtenAxis
    split
    all_goals first | omega | rfl | simp only [pending, misses, following, reported]

/-- The items that no item of the write names stand, but for the offsets, the index, the suppression and the drive's own. -/
theorem writtenAxis_unnamed (passed : WritePassed s a items t source) (unnamed : ¬∃ e ∈ items, e.1 = id) (offset : id ≠ 17)
    (index : id ≠ 33) (targetOffset : id ≠ 35) (suppress : id ≠ 74) (actual : id ≠ 79) (fault : id ≠ 80) (live : id ≠ 84) :
    axisItem (writtenAxis (s.axis a) t items source) s.site id = axisItem (s.axis a) s.site id := by
  have value := standing_of_unnamed (s.axis a) s.site unnamed
  by_cases travel : 1 ≤ id ∧ id ≤ 16
  · exact (axisItem_of_standingTravel passed.travel rfl travel.1 travel.2).trans value
  by_cases kind : id = 32
  · subst kind
    exact (writtenAxis_source passed).trans value
  by_cases target : 34 ≤ id ∧ id ≤ 45
  · obtain ⟨lo, hi⟩ := target
    rw [writtenAxis_item _ _ _ _ _ lo hi, axisItem_of_target _ _ lo hi,
      foldl_applyItem_of_unnamed (fun u : Target => u.item t.kind id) (fun _ _ other => item_applyItem_of_ne other) unnamed]
    interval_cases id
    exacts [rfl, absurd rfl targetOffset, rfl, rfl, rfl, rfl, rfl, rfl, rfl, rfl, rfl, rfl]
  · exact writtenAxis_motion _ _ (by omega) (by omega) suppress actual fault live

/-- The travel fields that would stand pass R99, and the offset the range of their kind (R101). -/
theorem writtenAxis_valid (passed : WritePassed s a items t source) (travels : ∃ e ∈ items, 1 ≤ e.1 ∧ e.1 ≤ 17) :
    t.Valid ∧ positionInRange t.kind (writtenAxis (s.axis a) t items source).offset = true := by
  obtain ⟨valid, -, inRange⟩ := newTravel_passed ((standingTravel_of_some travels).symm.trans passed.travel)
  exact ⟨valid, inRange⟩

theorem writtenAxis_offset_of_unnamed (passed : WritePassed s a items t source) (unnamed : ¬∃ e ∈ items, e.1 = 17) :
    (writtenAxis (s.axis a) t items source).offset = (s.axis a).reducedOffset (standing (s.axis a) s.site items 1) := by
  rw [standing_kind passed.travel]
  exact offsetAfter_of_not_carried (carried_eq_none_iff.mpr unnamed)

/-- A changed drive channel makes what the drive has told unknown (R100, R127). -/
theorem writtenAxis_drive (passed : WritePassed s a items t source) :
    let x := s.axis a
    let v := standing x s.site items
    (writtenAxis x t items source).drive =
      if v 12 ≠ x.travel.node ∨ v 13 ≠ x.travel.channel then { x.drive with actual := none, live := none, faultBit := false }
      else x.drive := by
  intro x v
  have node : (t.node : Int) = v 12 :=
    axisItem_of_standingTravel (id := 12) (y := writtenAxis x t items source) passed.travel rfl (by decide) (by decide)
  have channel : (t.channel : Int) = v 13 :=
    axisItem_of_standingTravel (id := 13) (y := writtenAxis x t items source) passed.travel rfl (by decide) (by decide)
  exact if_congr (by omega) rfl rfl

theorem writtenAxis_suppress_iff (x : Axis) (t : Travel) (items : Items) (source : Option (SourceKind × Nat)) :
    (writtenAxis x t items source).suppress = true ↔ x.suppress = true ∨ ∃ e ∈ items, 32 ≤ e.1 ∧ e.1 ≤ 39 := by
  simp [writtenAxis, suppressesFeedforward]

end written

/-! ## The obligation -/

/-- The tests of a write, on the values that would stand, are those that its rule makes (R60, R99, R100, R140). -/
theorem exists_writePassed_iff {s : State} {a : Fin Config.axisCount} {items : Items} (nodup : (items.map (·.1)).Nodup) :
    (∃ t source, WritePassed s a items t source) ↔
      ((∃ e ∈ items, 1 ≤ e.1 ∧ e.1 ≤ 17) → ∃ t, newTravel s a items = some t) ∧
        (∃ source, newSource (s.axis a) a s.site items = some source) ∧
        ∀ kind : AxisKind, standing (s.axis a) s.site items 1 = kind.code →
          ∀ e ∈ items, targetItemAccepted kind e.1 e.2 = true := by
  constructor
  · rintro ⟨t, source, passed⟩
    refine ⟨fun travels => ⟨t, (standingTravel_of_some travels).symm.trans passed.travel⟩, ⟨source, passed.source⟩, ?_⟩
    intro kind code
    have same : kind = t.kind := by
      have known := axisKindOf_eq_some_iff.mpr code
      rw [axisKindOf_eq_some_iff.mpr (standing_kind passed.travel)] at known
      exact (Option.some.inj known).symm
    exact same ▸ passed.accepted
  · rintro ⟨travel, ⟨source, formed⟩, accepted⟩
    by_cases travels : ∃ e ∈ items, 1 ≤ e.1 ∧ e.1 ≤ 17
    · obtain ⟨t, new⟩ := travel travels
      have standing' := (standingTravel_of_some travels).trans new
      exact ⟨t, source, nodup, standing', formed, accepted t.kind (standing_kind standing')⟩
    · have standing' := standingTravel_of_none (s := s) (a := a) travels
      exact ⟨_, source, nodup, standing', formed, accepted _ (standing_kind standing')⟩

/-- Settles O49: the items are decoded, the steps refuse in their order, and the fields of an accepted write read back. -/
theorem axisFieldsWritten : Obligations.AxisFieldsWritten := by
  intro s r rest head code idle
  have free : (true && s.inFlight) = false := by simp [State.inFlight, idle]
  have refuses {result : ReplyCode} (runs : runWriteAxis r s = refuse s result) : Answers .writeAxis s r s result [] :=
    answers_of_refuse (i := .writeAxis) rfl head code free runs
  refine ⟨fun malformed => refuses (runWriteAxis_of_malformed malformed), ?_⟩
  intro a items few fits args x names named travels value inKind reduced travelPasses sourcePasses targetPasses passes
  have runs : runWriteAxis r s = writeAxisItems s a items := runWriteAxis_of_items few fits args
  have listed : named → itemsNamed items = true := itemsNamed_iff.mpr
  have carries : travels → carriesTravel items = true := carriesTravel_iff.mpr
  have travelIff : travelPasses ↔ ∃ t, newTravel s a items = some t := by
    refine Iff.trans ⟨?_, ?_⟩ exists_newTravel_iff.symm
    · rintro ⟨k, limits, wind, vmax, amax, decel, mode, home, turns, bounded, wound, span, node, channel, fe, miss, mask, only, offset⟩
      exact ⟨⟨k, limits, wind, vmax, amax, decel, mode, home, turns, bounded, wound, span, node, channel, fe, miss, mask⟩, only,
        offset⟩
    · rintro ⟨⟨k, limits, wind, vmax, amax, decel, mode, home, turns, bounded, wound, span, node, channel, fe, miss, mask⟩, only,
        offset⟩
      exact ⟨k, limits, wind, vmax, amax, decel, mode, home, turns, bounded, wound, span, node, channel, fe, miss, mask, only, offset⟩
  have sourceIff : (∃ source, newSource x a s.site items = some source) ↔ sourcePasses := exists_newSource_iff
  have targetIff {kind : AxisKind} (known : value 1 = kind.code) :
      (∀ e ∈ items, targetItemAccepted kind e.1 e.2 = true) ↔ targetPasses :=
    forall₂_congr fun e _ => targetItemAccepted_iff known e
  have passesIff (nodup : (items.map (·.1)).Nodup) : (∃ t source, WritePassed s a items t source) ↔ passes := by
    constructor
    · rintro ⟨t, source, passed⟩
      exact ⟨fun moving => travelIff.mpr ⟨t, (standingTravel_of_some moving).symm.trans passed.travel⟩,
        sourceIff.mp ⟨source, passed.source⟩, (targetIff (standing_kind passed.travel)).mp passed.accepted⟩
    · rintro ⟨travel, source, target⟩
      exact (exists_writePassed_iff nodup).mpr
        ⟨fun moving => travelIff.mp (travel moving), sourceIff.mpr source, fun kind known => (targetIff known).mpr target⟩
  refine ⟨fun unnamed => ?_, fun isNamed moving showing => ?_, fun isNamed moving setup on => ?_, fun isNamed ready => ⟨?_, ?_⟩⟩
  · exact refuses (runs.trans (writeAxisItems_of_unnamed (mt itemsNamed_iff.mp unnamed)))
  · exact refuses (runs.trans (writeAxisItems_of_showing (listed isNamed) (carries moving) showing))
  · exact refuses (runs.trans (writeAxisItems_of_on (listed isNamed) (carries moving) setup on))
  · intro failed
    refine refuses (runs.trans (writeAxisItems_of_failed (listed isNamed) (ready ∘ carriesTravel_iff.mp) ?_))
    intro t source travel formed accepted
    exact failed ((passesIff isNamed.1).mp ⟨t, source, isNamed.1, travel, formed, accepted⟩)
  · intro passing
    obtain ⟨t, source, passed⟩ := (passesIff isNamed.1).mpr passing
    have accepts := runs.trans
      (writeAxisItems_of_passed (listed isNamed) (ready ∘ carriesTravel_iff.mp) passed.travel passed.source passed.accepted)
    refine ⟨s.setAxis a (writtenAxis x t items source), answers_of_accept (i := .writeAxis) rfl head code free accepts,
      fun b other => State.axis_setAxis_of_ne s a b _ other, rfl, ?_⟩
    intro y
    have written : y = writtenAxis x t items source := State.axis_setAxis_same s a _
    clear_value y
    subst written
    refine ⟨congrArg (fun d => { writtenAxis x t items source with drive := d }) (writtenAxis_drive passed),
      fun e mem index => writtenAxis_reads_back passed isNamed.2 mem index,
      fun id unnamed offset index targetOffset suppress actual fault live =>
        writtenAxis_unnamed passed unnamed offset index targetOffset suppress actual fault live,
      fun moving => writtenAxis_valid passed moving, fun bare => ?_, fun unnamed => writtenAxis_offset_of_unnamed passed unnamed,
      fun unnamed => writtenAxis_targetOffset_of_unnamed passed unnamed, fun either => writtenAxis_index_of_named passed either,
      fun kind index => writtenAxis_index_of_unnamed passed kind index, writtenAxis_suppress_iff x t items source⟩
    exact (Option.some.inj ((standingTravel_of_none bare).symm.trans passed.travel)).symm

end Sys2Proof.Machine
end
